-- ==== Sys2Proof/Word.lean ====
section
/-! DEFINITION. The word types of the SUB038 core: registers, bytes, addresses and the small fields the spec
treats as bits (00_scope R6, R8). The widths that 00_scope R7 leaves to the configuration are held in 64 bits, which every
admitted configuration fits; how many of them are implemented is a field of `Config`. -/

namespace Sys2Proof

/-- A 64-bit register value (R6, R8). -/
abbrev Word := BitVec 64

/-- One byte, the unit of addressing (R71). -/
abbrev Byte := BitVec 8

/-- A register index, 0 to 31; index 31 is the wired zero (R22). -/
abbrev Reg := BitVec 5

/-- A privilege mode: 0 kernel, 1 executive, 2 supervisor, 3 user (R30). -/
abbrev Mode := BitVec 2

/-- A physical byte address, below `2^PA_BITS` (R7, R71). -/
abbrev PhysAddr := Word

/-- A virtual page number, below `2^VPN_BITS` (R7, R100). -/
abbrev Vpn := Word

/-- A physical frame number, below `2^PFN_BITS` (R7). -/
abbrev Pfn := Word

/-- An address-space number, below `2^ASN_BITS` (R7). -/
abbrev Asn := Word

end Sys2Proof
end

