-- ==== Sys2Proof/Syntax.lean ====
section
/-! DEFINITION. The instructions of the SUB038 core: one constructor per row of spec/opcode_table.json, in the table's
order (30_encoding R142 to R150). Fields an encoding ignores (R156) are no operands; must-be-zero fields are, because
the instruction's own rule tests them (47_firmware_opcodes R381, R382, R389). -/

namespace Sys2Proof

/-- The second operand of the operate format (R135, R141): a register or an 8-bit literal. -/
inductive Operand where
  | reg (rb : Reg)
  | lit (v : BitVec 8)
  deriving DecidableEq, Repr

/-- The qualifier bits of `HW_LD` and `HW_ST` (R139): PHYS 15, ALT 14, QUAD 12, LOCK 10, and the must-be-zero bits 13
and 11. -/
structure HwQualifiers where
  phys  : Bool
  alt   : Bool
  mbz13 : Bool
  quad  : Bool
  mbz11 : Bool
  lock  : Bool
  deriving DecidableEq, Repr

/-- The instructions. -/
inductive Instr where
  /-- CALL_PAL (R381). -/
  | callPal (mbz : BitVec 18) (cls : Bool) (n : BitVec 7)
  /-- OPC01 (R390). -/
  | opc01
  /-- OPC02 (R390). -/
  | opc02
  /-- OPC03 (R390). -/
  | opc03
  /-- OPC04 (R390). -/
  | opc04
  /-- OPC05 (R390). -/
  | opc05
  /-- OPC06 (R390). -/
  | opc06
  /-- OPC07 (R390). -/
  | opc07
  /-- LDA (R171). -/
  | lda (ra rb : Reg) (disp : BitVec 16)
  /-- LDAH (R172). -/
  | ldah (ra rb : Reg) (disp : BitVec 16)
  /-- LDBU (R173). -/
  | ldbu (ra rb : Reg) (disp : BitVec 16)
  /-- LDQ_U (R176). -/
  | ldqU (ra rb : Reg) (disp : BitVec 16)
  /-- LDWU (R174). -/
  | ldwu (ra rb : Reg) (disp : BitVec 16)
  /-- STW (R181). -/
  | stw (ra rb : Reg) (disp : BitVec 16)
  /-- STB (R180). -/
  | stb (ra rb : Reg) (disp : BitVec 16)
  /-- STQ_U (R183). -/
  | stqU (ra rb : Reg) (disp : BitVec 16)
  /-- ADDL (R203). -/
  | addl (ra : Reg) (b : Operand) (rc : Reg)
  /-- S4ADDL (R204). -/
  | s4addl (ra : Reg) (b : Operand) (rc : Reg)
  /-- SUBL (R206). -/
  | subl (ra : Reg) (b : Operand) (rc : Reg)
  /-- S4SUBL (R207). -/
  | s4subl (ra : Reg) (b : Operand) (rc : Reg)
  /-- CMPBGE (R225). -/
  | cmpbge (ra : Reg) (b : Operand) (rc : Reg)
  /-- S8ADDL (R205). -/
  | s8addl (ra : Reg) (b : Operand) (rc : Reg)
  /-- S8SUBL (R208). -/
  | s8subl (ra : Reg) (b : Operand) (rc : Reg)
  /-- CMPULT (R223). -/
  | cmpult (ra : Reg) (b : Operand) (rc : Reg)
  /-- ADDQ (R209). -/
  | addq (ra : Reg) (b : Operand) (rc : Reg)
  /-- S4ADDQ (R210). -/
  | s4addq (ra : Reg) (b : Operand) (rc : Reg)
  /-- SUBQ (R212). -/
  | subq (ra : Reg) (b : Operand) (rc : Reg)
  /-- S4SUBQ (R213). -/
  | s4subq (ra : Reg) (b : Operand) (rc : Reg)
  /-- CMPEQ (R220). -/
  | cmpeq (ra : Reg) (b : Operand) (rc : Reg)
  /-- S8ADDQ (R211). -/
  | s8addq (ra : Reg) (b : Operand) (rc : Reg)
  /-- S8SUBQ (R214). -/
  | s8subq (ra : Reg) (b : Operand) (rc : Reg)
  /-- CMPULE (R224). -/
  | cmpule (ra : Reg) (b : Operand) (rc : Reg)
  /-- ADDL/V (R215). -/
  | addlV (ra : Reg) (b : Operand) (rc : Reg)
  /-- SUBL/V (R216). -/
  | sublV (ra : Reg) (b : Operand) (rc : Reg)
  /-- CMPLT (R221). -/
  | cmplt (ra : Reg) (b : Operand) (rc : Reg)
  /-- ADDQ/V (R217). -/
  | addqV (ra : Reg) (b : Operand) (rc : Reg)
  /-- SUBQ/V (R218). -/
  | subqV (ra : Reg) (b : Operand) (rc : Reg)
  /-- CMPLE (R222). -/
  | cmple (ra : Reg) (b : Operand) (rc : Reg)
  /-- AND (R241). -/
  | and (ra : Reg) (b : Operand) (rc : Reg)
  /-- BIC (R242). -/
  | bic (ra : Reg) (b : Operand) (rc : Reg)
  /-- CMOVLBS (R248). -/
  | cmovlbs (ra : Reg) (b : Operand) (rc : Reg)
  /-- CMOVLBC (R249). -/
  | cmovlbc (ra : Reg) (b : Operand) (rc : Reg)
  /-- BIS (R243). -/
  | bis (ra : Reg) (b : Operand) (rc : Reg)
  /-- CMOVEQ (R250). -/
  | cmoveq (ra : Reg) (b : Operand) (rc : Reg)
  /-- CMOVNE (R251). -/
  | cmovne (ra : Reg) (b : Operand) (rc : Reg)
  /-- ORNOT (R244). -/
  | ornot (ra : Reg) (b : Operand) (rc : Reg)
  /-- XOR (R245). -/
  | xor (ra : Reg) (b : Operand) (rc : Reg)
  /-- CMOVLT (R252). -/
  | cmovlt (ra : Reg) (b : Operand) (rc : Reg)
  /-- CMOVGE (R253). -/
  | cmovge (ra : Reg) (b : Operand) (rc : Reg)
  /-- EQV (R246). -/
  | eqv (ra : Reg) (b : Operand) (rc : Reg)
  /-- AMASK (R256). -/
  | amask (b : Operand) (rc : Reg)
  /-- CMOVLE (R254). -/
  | cmovle (ra : Reg) (b : Operand) (rc : Reg)
  /-- CMOVGT (R255). -/
  | cmovgt (ra : Reg) (b : Operand) (rc : Reg)
  /-- IMPLVER (R257). -/
  | implver (rc : Reg)
  /-- MSKBL (R279). -/
  | mskbl (ra : Reg) (b : Operand) (rc : Reg)
  /-- EXTBL (R265). -/
  | extbl (ra : Reg) (b : Operand) (rc : Reg)
  /-- INSBL (R272). -/
  | insbl (ra : Reg) (b : Operand) (rc : Reg)
  /-- MSKWL (R280). -/
  | mskwl (ra : Reg) (b : Operand) (rc : Reg)
  /-- EXTWL (R266). -/
  | extwl (ra : Reg) (b : Operand) (rc : Reg)
  /-- INSWL (R273). -/
  | inswl (ra : Reg) (b : Operand) (rc : Reg)
  /-- MSKLL (R281). -/
  | mskll (ra : Reg) (b : Operand) (rc : Reg)
  /-- EXTLL (R267). -/
  | extll (ra : Reg) (b : Operand) (rc : Reg)
  /-- INSLL (R274). -/
  | insll (ra : Reg) (b : Operand) (rc : Reg)
  /-- ZAP (R286). -/
  | zap (ra : Reg) (b : Operand) (rc : Reg)
  /-- ZAPNOT (R287). -/
  | zapnot (ra : Reg) (b : Operand) (rc : Reg)
  /-- MSKQL (R282). -/
  | mskql (ra : Reg) (b : Operand) (rc : Reg)
  /-- SRL (R263). -/
  | srl (ra : Reg) (b : Operand) (rc : Reg)
  /-- EXTQL (R268). -/
  | extql (ra : Reg) (b : Operand) (rc : Reg)
  /-- SLL (R262). -/
  | sll (ra : Reg) (b : Operand) (rc : Reg)
  /-- INSQL (R275). -/
  | insql (ra : Reg) (b : Operand) (rc : Reg)
  /-- SRA (R264). -/
  | sra (ra : Reg) (b : Operand) (rc : Reg)
  /-- MSKWH (R283). -/
  | mskwh (ra : Reg) (b : Operand) (rc : Reg)
  /-- INSWH (R276). -/
  | inswh (ra : Reg) (b : Operand) (rc : Reg)
  /-- EXTWH (R269). -/
  | extwh (ra : Reg) (b : Operand) (rc : Reg)
  /-- MSKLH (R284). -/
  | msklh (ra : Reg) (b : Operand) (rc : Reg)
  /-- INSLH (R277). -/
  | inslh (ra : Reg) (b : Operand) (rc : Reg)
  /-- EXTLH (R270). -/
  | extlh (ra : Reg) (b : Operand) (rc : Reg)
  /-- MSKQH (R285). -/
  | mskqh (ra : Reg) (b : Operand) (rc : Reg)
  /-- INSQH (R278). -/
  | insqh (ra : Reg) (b : Operand) (rc : Reg)
  /-- EXTQH (R271). -/
  | extqh (ra : Reg) (b : Operand) (rc : Reg)
  /-- MULL (R226). -/
  | mull (ra : Reg) (b : Operand) (rc : Reg)
  /-- MULQ (R227). -/
  | mulq (ra : Reg) (b : Operand) (rc : Reg)
  /-- UMULH (R228). -/
  | umulh (ra : Reg) (b : Operand) (rc : Reg)
  /-- MULL/V (R229). -/
  | mullV (ra : Reg) (b : Operand) (rc : Reg)
  /-- MULQ/V (R230). -/
  | mulqV (ra : Reg) (b : Operand) (rc : Reg)
  /-- ITFP (R355). -/
  | itfp (fa fb fc : Reg) (fn : BitVec 11)
  /-- FLTV (R355). -/
  | fltv (fa fb fc : Reg) (fn : BitVec 11)
  /-- FLTI (R355). -/
  | flti (fa fb fc : Reg) (fn : BitVec 11)
  /-- FLTL (R355). -/
  | fltl (fa fb fc : Reg) (fn : BitVec 11)
  /-- TRAPB (R333). -/
  | trapb
  /-- EXCB (R332). -/
  | excb
  /-- MB (R330). -/
  | mb
  /-- WMB (R331). -/
  | wmb
  /-- FETCH (R334). -/
  | fetch (rb : Reg)
  /-- FETCH_M (R335). -/
  | fetchM (rb : Reg)
  /-- RPCC (R336). -/
  | rpcc (ra : Reg)
  /-- RC (R338). -/
  | rc (ra : Reg)
  /-- ECB (R339). -/
  | ecb (rb : Reg)
  /-- RS (R337). -/
  | rs (ra : Reg)
  /-- WH64 (R340). -/
  | wh64 (rb : Reg)
  /-- HW_MFPR (R385). -/
  | hwMfpr (ra : Reg) (index : BitVec 16)
  /-- JMP (R320). -/
  | jmp (ra rb : Reg)
  /-- JSR (R321). -/
  | jsr (ra rb : Reg)
  /-- RET (R322). -/
  | ret (ra rb : Reg)
  /-- JSR_COROUTINE (R323). -/
  | jsrCoroutine (ra rb : Reg)
  /-- HW_LD (R383). -/
  | hwLd (ra rb : Reg) (q : HwQualifiers) (disp : BitVec 10)
  /-- SEXTB (R288). -/
  | sextb (b : Operand) (rc : Reg)
  /-- SEXTW (R289). -/
  | sextw (b : Operand) (rc : Reg)
  /-- HW_MTPR (R386). -/
  | hwMtpr (rb : Reg) (index : BitVec 16)
  /-- HW_REI (R389). -/
  | hwRei (rs : Bool) (mbz : BitVec 15)
  /-- HW_ST (R384). -/
  | hwSt (ra rb : Reg) (q : HwQualifiers) (disp : BitVec 10)
  /-- LDF (R360). -/
  | ldf (fa rb : Reg) (disp : BitVec 16)
  /-- LDG (R361). -/
  | ldg (fa rb : Reg) (disp : BitVec 16)
  /-- LDS (R362). -/
  | lds (fa rb : Reg) (disp : BitVec 16)
  /-- LDT (R363). -/
  | ldt (fa rb : Reg) (disp : BitVec 16)
  /-- STF (R364). -/
  | stf (fa rb : Reg) (disp : BitVec 16)
  /-- STG (R365). -/
  | stg (fa rb : Reg) (disp : BitVec 16)
  /-- STS (R366). -/
  | sts (fa rb : Reg) (disp : BitVec 16)
  /-- STT (R367). -/
  | stt (fa rb : Reg) (disp : BitVec 16)
  /-- LDL (R175). -/
  | ldl (ra rb : Reg) (disp : BitVec 16)
  /-- LDQ (R177). -/
  | ldq (ra rb : Reg) (disp : BitVec 16)
  /-- LDL_L (R178). -/
  | ldlL (ra rb : Reg) (disp : BitVec 16)
  /-- LDQ_L (R179). -/
  | ldqL (ra rb : Reg) (disp : BitVec 16)
  /-- STL (R182). -/
  | stl (ra rb : Reg) (disp : BitVec 16)
  /-- STQ (R184). -/
  | stq (ra rb : Reg) (disp : BitVec 16)
  /-- STL_C (R185). -/
  | stlC (ra rb : Reg) (disp : BitVec 16)
  /-- STQ_C (R186). -/
  | stqC (ra rb : Reg) (disp : BitVec 16)
  /-- BR (R303). -/
  | br (ra : Reg) (disp : BitVec 21)
  /-- FBEQ (R313). -/
  | fbeq (fa : Reg) (disp : BitVec 21)
  /-- FBLT (R314). -/
  | fblt (fa : Reg) (disp : BitVec 21)
  /-- FBLE (R315). -/
  | fble (fa : Reg) (disp : BitVec 21)
  /-- BSR (R304). -/
  | bsr (ra : Reg) (disp : BitVec 21)
  /-- FBNE (R316). -/
  | fbne (fa : Reg) (disp : BitVec 21)
  /-- FBGE (R317). -/
  | fbge (fa : Reg) (disp : BitVec 21)
  /-- FBGT (R318). -/
  | fbgt (fa : Reg) (disp : BitVec 21)
  /-- BLBC (R305). -/
  | blbc (ra : Reg) (disp : BitVec 21)
  /-- BEQ (R306). -/
  | beq (ra : Reg) (disp : BitVec 21)
  /-- BLT (R307). -/
  | blt (ra : Reg) (disp : BitVec 21)
  /-- BLE (R308). -/
  | ble (ra : Reg) (disp : BitVec 21)
  /-- BLBS (R309). -/
  | blbs (ra : Reg) (disp : BitVec 21)
  /-- BNE (R310). -/
  | bne (ra : Reg) (disp : BitVec 21)
  /-- BGE (R311). -/
  | bge (ra : Reg) (disp : BitVec 21)
  /-- BGT (R312). -/
  | bgt (ra : Reg) (disp : BitVec 21)
  deriving DecidableEq, Repr

end Sys2Proof
end

