-- ==== Sys2Proof/WellFormed.lean ====
section
/-! DEFINITION. Well-formedness of an instruction: the must-be-zero fields of its encoding are zero (30_encoding R137,
R139, R155). Every other operand is exactly as wide as its field, so no other check is needed. -/

namespace Sys2Proof

/-- Bits 13 and 11 of the hardware memory format are zero (R139). -/
def HwQualifiers.mbzClear (q : HwQualifiers) : Bool := !q.mbz13 && !q.mbz11

/-- The must-be-zero fields are zero; an encoding with one set raises reserved-instruction (R155). -/
def Instr.wellFormed (i : Instr) : Bool :=
  match i with
  | .callPal mbz _ _ => mbz == 0
  | .opc01 => true
  | .opc02 => true
  | .opc03 => true
  | .opc04 => true
  | .opc05 => true
  | .opc06 => true
  | .opc07 => true
  | .lda _ _ _ => true
  | .ldah _ _ _ => true
  | .ldbu _ _ _ => true
  | .ldqU _ _ _ => true
  | .ldwu _ _ _ => true
  | .stw _ _ _ => true
  | .stb _ _ _ => true
  | .stqU _ _ _ => true
  | .addl _ _ _ => true
  | .s4addl _ _ _ => true
  | .subl _ _ _ => true
  | .s4subl _ _ _ => true
  | .cmpbge _ _ _ => true
  | .s8addl _ _ _ => true
  | .s8subl _ _ _ => true
  | .cmpult _ _ _ => true
  | .addq _ _ _ => true
  | .s4addq _ _ _ => true
  | .subq _ _ _ => true
  | .s4subq _ _ _ => true
  | .cmpeq _ _ _ => true
  | .s8addq _ _ _ => true
  | .s8subq _ _ _ => true
  | .cmpule _ _ _ => true
  | .addlV _ _ _ => true
  | .sublV _ _ _ => true
  | .cmplt _ _ _ => true
  | .addqV _ _ _ => true
  | .subqV _ _ _ => true
  | .cmple _ _ _ => true
  | .and _ _ _ => true
  | .bic _ _ _ => true
  | .cmovlbs _ _ _ => true
  | .cmovlbc _ _ _ => true
  | .bis _ _ _ => true
  | .cmoveq _ _ _ => true
  | .cmovne _ _ _ => true
  | .ornot _ _ _ => true
  | .xor _ _ _ => true
  | .cmovlt _ _ _ => true
  | .cmovge _ _ _ => true
  | .eqv _ _ _ => true
  | .amask _ _ => true
  | .cmovle _ _ _ => true
  | .cmovgt _ _ _ => true
  | .implver _ => true
  | .mskbl _ _ _ => true
  | .extbl _ _ _ => true
  | .insbl _ _ _ => true
  | .mskwl _ _ _ => true
  | .extwl _ _ _ => true
  | .inswl _ _ _ => true
  | .mskll _ _ _ => true
  | .extll _ _ _ => true
  | .insll _ _ _ => true
  | .zap _ _ _ => true
  | .zapnot _ _ _ => true
  | .mskql _ _ _ => true
  | .srl _ _ _ => true
  | .extql _ _ _ => true
  | .sll _ _ _ => true
  | .insql _ _ _ => true
  | .sra _ _ _ => true
  | .mskwh _ _ _ => true
  | .inswh _ _ _ => true
  | .extwh _ _ _ => true
  | .msklh _ _ _ => true
  | .inslh _ _ _ => true
  | .extlh _ _ _ => true
  | .mskqh _ _ _ => true
  | .insqh _ _ _ => true
  | .extqh _ _ _ => true
  | .mull _ _ _ => true
  | .mulq _ _ _ => true
  | .umulh _ _ _ => true
  | .mullV _ _ _ => true
  | .mulqV _ _ _ => true
  | .itfp _ _ _ _ => true
  | .fltv _ _ _ _ => true
  | .flti _ _ _ _ => true
  | .fltl _ _ _ _ => true
  | .trapb => true
  | .excb => true
  | .mb => true
  | .wmb => true
  | .fetch _ => true
  | .fetchM _ => true
  | .rpcc _ => true
  | .rc _ => true
  | .ecb _ => true
  | .rs _ => true
  | .wh64 _ => true
  | .hwMfpr _ _ => true
  | .jmp _ _ => true
  | .jsr _ _ => true
  | .ret _ _ => true
  | .jsrCoroutine _ _ => true
  | .hwLd _ _ q _ => q.mbzClear
  | .sextb _ _ => true
  | .sextw _ _ => true
  | .hwMtpr _ _ => true
  | .hwRei _ mbz => mbz == 0
  | .hwSt _ _ q _ => q.mbzClear
  | .ldf _ _ _ => true
  | .ldg _ _ _ => true
  | .lds _ _ _ => true
  | .ldt _ _ _ => true
  | .stf _ _ _ => true
  | .stg _ _ _ => true
  | .sts _ _ _ => true
  | .stt _ _ _ => true
  | .ldl _ _ _ => true
  | .ldq _ _ _ => true
  | .ldlL _ _ _ => true
  | .ldqL _ _ _ => true
  | .stl _ _ _ => true
  | .stq _ _ _ => true
  | .stlC _ _ _ => true
  | .stqC _ _ _ => true
  | .br _ _ => true
  | .fbeq _ _ => true
  | .fblt _ _ => true
  | .fble _ _ => true
  | .bsr _ _ => true
  | .fbne _ _ => true
  | .fbge _ _ => true
  | .fbgt _ _ => true
  | .blbc _ _ => true
  | .beq _ _ => true
  | .blt _ _ => true
  | .ble _ _ => true
  | .blbs _ _ => true
  | .bne _ _ => true
  | .bge _ _ => true
  | .bgt _ _ => true

end Sys2Proof
end

