-- ==== Sys2Proof/Decode.lean ====
section
/-! DEFINITION. Decoding of the 32-bit instruction word (30_encoding R132 to R156), total and rejecting by name, and the
encoder, both written from the spec's formats and opcode tables. -/

namespace Sys2Proof

/-- Why a word is no instruction of the core. Executing such a word raises reserved-instruction (R155), so each is
safe. -/
inductive DecodeError where
  /-- The function field is not one the opcode lists (R143 to R147). -/
  | unlistedFunction (op : BitVec 6) (fn : BitVec 16)
  /-- Fewer than four bytes were given. -/
  | tooFewBytes (n : Nat)
  deriving DecidableEq, Repr

/-! ### Fields (R133 to R140) -/

/-- The opcode, `ir[31:26]` (R132). -/
def fieldOp (w : BitVec 32) : BitVec 6 := w.extractLsb' 26 6

/-- `Ra`, bits 25:21. -/
def fieldRa (w : BitVec 32) : Reg := w.extractLsb' 21 5

/-- `Rb`, bits 20:16. -/
def fieldRb (w : BitVec 32) : Reg := w.extractLsb' 16 5

/-- `Rc`, bits 4:0. -/
def fieldRc (w : BitVec 32) : Reg := w.extractLsb' 0 5

/-- The second operand of the operate format: bit 12 selects the literal, bits 20:13 (R135, R141). -/
def fieldOperand (w : BitVec 32) : Operand :=
  if w.getLsbD 12 then .lit (w.extractLsb' 13 8) else .reg (fieldRb w)

/-- The 7-bit function of the operate format, bits 11:5 (R135). -/
def fieldFn7 (w : BitVec 32) : BitVec 7 := w.extractLsb' 5 7

/-- The 11-bit function of the floating operate format, bits 15:5 (R136). -/
def fieldFn11 (w : BitVec 32) : BitVec 11 := w.extractLsb' 5 11

/-- `disp16`, `index16` or `function16`, bits 15:0 (R140). -/
def fieldDisp16 (w : BitVec 32) : BitVec 16 := w.extractLsb' 0 16

/-- `disp21`, bits 20:0 (R134). -/
def fieldDisp21 (w : BitVec 32) : BitVec 21 := w.extractLsb' 0 21

/-- `disp10`, bits 9:0 (R139). -/
def fieldDisp10 (w : BitVec 32) : BitVec 10 := w.extractLsb' 0 10

/-- The qualifiers of the hardware memory format (R139). -/
def fieldQualifiers (w : BitVec 32) : HwQualifiers where
  phys := w.getLsbD 15
  alt := w.getLsbD 14
  mbz13 := w.getLsbD 13
  quad := w.getLsbD 12
  mbz11 := w.getLsbD 11
  lock := w.getLsbD 10

/-! ### Function tables -/

/-- Opcode 0x10, by its function field (R143). -/
def decodeArith (fn : Nat) (ra : Reg) (b : Operand) (rc : Reg) : Option Instr :=
  match fn with
  | 0x00 => some (.addl ra b rc)
  | 0x02 => some (.s4addl ra b rc)
  | 0x09 => some (.subl ra b rc)
  | 0x0B => some (.s4subl ra b rc)
  | 0x0F => some (.cmpbge ra b rc)
  | 0x12 => some (.s8addl ra b rc)
  | 0x1B => some (.s8subl ra b rc)
  | 0x1D => some (.cmpult ra b rc)
  | 0x20 => some (.addq ra b rc)
  | 0x22 => some (.s4addq ra b rc)
  | 0x29 => some (.subq ra b rc)
  | 0x2B => some (.s4subq ra b rc)
  | 0x2D => some (.cmpeq ra b rc)
  | 0x32 => some (.s8addq ra b rc)
  | 0x3B => some (.s8subq ra b rc)
  | 0x3D => some (.cmpule ra b rc)
  | 0x40 => some (.addlV ra b rc)
  | 0x49 => some (.sublV ra b rc)
  | 0x4D => some (.cmplt ra b rc)
  | 0x60 => some (.addqV ra b rc)
  | 0x69 => some (.subqV ra b rc)
  | 0x6D => some (.cmple ra b rc)
  | _ => none

/-- Opcode 0x11, by its function field (R144). -/
def decodeLogical (fn : Nat) (ra : Reg) (b : Operand) (rc : Reg) : Option Instr :=
  match fn with
  | 0x00 => some (.and ra b rc)
  | 0x08 => some (.bic ra b rc)
  | 0x14 => some (.cmovlbs ra b rc)
  | 0x16 => some (.cmovlbc ra b rc)
  | 0x20 => some (.bis ra b rc)
  | 0x24 => some (.cmoveq ra b rc)
  | 0x26 => some (.cmovne ra b rc)
  | 0x28 => some (.ornot ra b rc)
  | 0x40 => some (.xor ra b rc)
  | 0x44 => some (.cmovlt ra b rc)
  | 0x46 => some (.cmovge ra b rc)
  | 0x48 => some (.eqv ra b rc)
  | 0x61 => some (.amask b rc)
  | 0x64 => some (.cmovle ra b rc)
  | 0x66 => some (.cmovgt ra b rc)
  | 0x6C => some (.implver rc)
  | _ => none

/-- Opcode 0x12, by its function field (R145). -/
def decodeShift (fn : Nat) (ra : Reg) (b : Operand) (rc : Reg) : Option Instr :=
  match fn with
  | 0x02 => some (.mskbl ra b rc)
  | 0x06 => some (.extbl ra b rc)
  | 0x0B => some (.insbl ra b rc)
  | 0x12 => some (.mskwl ra b rc)
  | 0x16 => some (.extwl ra b rc)
  | 0x1B => some (.inswl ra b rc)
  | 0x22 => some (.mskll ra b rc)
  | 0x26 => some (.extll ra b rc)
  | 0x2B => some (.insll ra b rc)
  | 0x30 => some (.zap ra b rc)
  | 0x31 => some (.zapnot ra b rc)
  | 0x32 => some (.mskql ra b rc)
  | 0x34 => some (.srl ra b rc)
  | 0x36 => some (.extql ra b rc)
  | 0x39 => some (.sll ra b rc)
  | 0x3B => some (.insql ra b rc)
  | 0x3C => some (.sra ra b rc)
  | 0x52 => some (.mskwh ra b rc)
  | 0x57 => some (.inswh ra b rc)
  | 0x5A => some (.extwh ra b rc)
  | 0x62 => some (.msklh ra b rc)
  | 0x67 => some (.inslh ra b rc)
  | 0x6A => some (.extlh ra b rc)
  | 0x72 => some (.mskqh ra b rc)
  | 0x77 => some (.insqh ra b rc)
  | 0x7A => some (.extqh ra b rc)
  | _ => none

/-- Opcode 0x13, by its function field (R146). -/
def decodeMultiply (fn : Nat) (ra : Reg) (b : Operand) (rc : Reg) : Option Instr :=
  match fn with
  | 0x00 => some (.mull ra b rc)
  | 0x20 => some (.mulq ra b rc)
  | 0x30 => some (.umulh ra b rc)
  | 0x40 => some (.mullV ra b rc)
  | 0x60 => some (.mulqV ra b rc)
  | _ => none

/-- Opcode 0x1c, by its function field (R146). -/
def decodeSignExtend (fn : Nat) (_ra : Reg) (b : Operand) (rc : Reg) : Option Instr :=
  match fn with
  | 0x00 => some (.sextb b rc)
  | 0x01 => some (.sextw b rc)
  | _ => none

/-- Opcode 0x18, by its whole 16-bit function field (R147). -/
def decodeMisc (fn : Nat) (ra rb : Reg) : Option Instr :=
  match fn with
  | 0x0000 => some .trapb
  | 0x0400 => some .excb
  | 0x4000 => some .mb
  | 0x4400 => some .wmb
  | 0x8000 => some (.fetch rb)
  | 0xA000 => some (.fetchM rb)
  | 0xC000 => some (.rpcc ra)
  | 0xE000 => some (.rc ra)
  | 0xE800 => some (.ecb rb)
  | 0xF000 => some (.rs ra)
  | 0xF800 => some (.wh64 rb)
  | _ => none

/-- Opcode 0x1A, by its type field, bits 15:14 (R148). -/
def decodeJump (ty : BitVec 2) (ra rb : Reg) : Instr :=
  match ty with
  | 0#2 => .jmp ra rb
  | 1#2 => .jsr ra rb
  | 2#2 => .ret ra rb
  | 3#2 => .jsrCoroutine ra rb

/-- The instruction a function table lists, or its rejection. -/
def listed (w : BitVec 32) (fn : BitVec 16) (i : Option Instr) : Except DecodeError Instr :=
  match i with
  | some i => .ok i
  | none => .error (.unlistedFunction (fieldOp w) fn)

/-- A word of an operate group, through the group's function table. -/
def decodeOperate (table : Nat → Reg → Operand → Reg → Option Instr) (w : BitVec 32) : Except DecodeError Instr :=
  listed w ((fieldFn7 w).setWidth 16) (table (fieldFn7 w).toNat (fieldRa w) (fieldOperand w) (fieldRc w))

/-- A word as an instruction, by the number of its major opcode (R142). Every 6-bit opcode has its line; the last line is
for numbers that are none. -/
def decodeMajor (op : Nat) (w : BitVec 32) : Except DecodeError Instr :=
  match op with
  | 0x00 => .ok (.callPal (w.extractLsb' 8 18) (w.getLsbD 7) (w.extractLsb' 0 7))
  | 0x01 => .ok .opc01
  | 0x02 => .ok .opc02
  | 0x03 => .ok .opc03
  | 0x04 => .ok .opc04
  | 0x05 => .ok .opc05
  | 0x06 => .ok .opc06
  | 0x07 => .ok .opc07
  | 0x08 => .ok (.lda (fieldRa w) (fieldRb w) (fieldDisp16 w))
  | 0x09 => .ok (.ldah (fieldRa w) (fieldRb w) (fieldDisp16 w))
  | 0x0A => .ok (.ldbu (fieldRa w) (fieldRb w) (fieldDisp16 w))
  | 0x0B => .ok (.ldqU (fieldRa w) (fieldRb w) (fieldDisp16 w))
  | 0x0C => .ok (.ldwu (fieldRa w) (fieldRb w) (fieldDisp16 w))
  | 0x0D => .ok (.stw (fieldRa w) (fieldRb w) (fieldDisp16 w))
  | 0x0E => .ok (.stb (fieldRa w) (fieldRb w) (fieldDisp16 w))
  | 0x0F => .ok (.stqU (fieldRa w) (fieldRb w) (fieldDisp16 w))
  | 0x10 => decodeOperate decodeArith w
  | 0x11 => decodeOperate decodeLogical w
  | 0x12 => decodeOperate decodeShift w
  | 0x13 => decodeOperate decodeMultiply w
  | 0x14 => .ok (.itfp (fieldRa w) (fieldRb w) (fieldRc w) (fieldFn11 w))
  | 0x15 => .ok (.fltv (fieldRa w) (fieldRb w) (fieldRc w) (fieldFn11 w))
  | 0x16 => .ok (.flti (fieldRa w) (fieldRb w) (fieldRc w) (fieldFn11 w))
  | 0x17 => .ok (.fltl (fieldRa w) (fieldRb w) (fieldRc w) (fieldFn11 w))
  | 0x18 => listed w (fieldDisp16 w) (decodeMisc (fieldDisp16 w).toNat (fieldRa w) (fieldRb w))
  | 0x19 => .ok (.hwMfpr (fieldRa w) (fieldDisp16 w))
  | 0x1A => .ok (decodeJump (w.extractLsb' 14 2) (fieldRa w) (fieldRb w))
  | 0x1B => .ok (.hwLd (fieldRa w) (fieldRb w) (fieldQualifiers w) (fieldDisp10 w))
  | 0x1C => decodeOperate decodeSignExtend w
  | 0x1D => .ok (.hwMtpr (fieldRb w) (fieldDisp16 w))
  | 0x1E => .ok (.hwRei (w.getLsbD 15) (w.extractLsb' 0 15))
  | 0x1F => .ok (.hwSt (fieldRa w) (fieldRb w) (fieldQualifiers w) (fieldDisp10 w))
  | 0x20 => .ok (.ldf (fieldRa w) (fieldRb w) (fieldDisp16 w))
  | 0x21 => .ok (.ldg (fieldRa w) (fieldRb w) (fieldDisp16 w))
  | 0x22 => .ok (.lds (fieldRa w) (fieldRb w) (fieldDisp16 w))
  | 0x23 => .ok (.ldt (fieldRa w) (fieldRb w) (fieldDisp16 w))
  | 0x24 => .ok (.stf (fieldRa w) (fieldRb w) (fieldDisp16 w))
  | 0x25 => .ok (.stg (fieldRa w) (fieldRb w) (fieldDisp16 w))
  | 0x26 => .ok (.sts (fieldRa w) (fieldRb w) (fieldDisp16 w))
  | 0x27 => .ok (.stt (fieldRa w) (fieldRb w) (fieldDisp16 w))
  | 0x28 => .ok (.ldl (fieldRa w) (fieldRb w) (fieldDisp16 w))
  | 0x29 => .ok (.ldq (fieldRa w) (fieldRb w) (fieldDisp16 w))
  | 0x2A => .ok (.ldlL (fieldRa w) (fieldRb w) (fieldDisp16 w))
  | 0x2B => .ok (.ldqL (fieldRa w) (fieldRb w) (fieldDisp16 w))
  | 0x2C => .ok (.stl (fieldRa w) (fieldRb w) (fieldDisp16 w))
  | 0x2D => .ok (.stq (fieldRa w) (fieldRb w) (fieldDisp16 w))
  | 0x2E => .ok (.stlC (fieldRa w) (fieldRb w) (fieldDisp16 w))
  | 0x2F => .ok (.stqC (fieldRa w) (fieldRb w) (fieldDisp16 w))
  | 0x30 => .ok (.br (fieldRa w) (fieldDisp21 w))
  | 0x31 => .ok (.fbeq (fieldRa w) (fieldDisp21 w))
  | 0x32 => .ok (.fblt (fieldRa w) (fieldDisp21 w))
  | 0x33 => .ok (.fble (fieldRa w) (fieldDisp21 w))
  | 0x34 => .ok (.bsr (fieldRa w) (fieldDisp21 w))
  | 0x35 => .ok (.fbne (fieldRa w) (fieldDisp21 w))
  | 0x36 => .ok (.fbge (fieldRa w) (fieldDisp21 w))
  | 0x37 => .ok (.fbgt (fieldRa w) (fieldDisp21 w))
  | 0x38 => .ok (.blbc (fieldRa w) (fieldDisp21 w))
  | 0x39 => .ok (.beq (fieldRa w) (fieldDisp21 w))
  | 0x3A => .ok (.blt (fieldRa w) (fieldDisp21 w))
  | 0x3B => .ok (.ble (fieldRa w) (fieldDisp21 w))
  | 0x3C => .ok (.blbs (fieldRa w) (fieldDisp21 w))
  | 0x3D => .ok (.bne (fieldRa w) (fieldDisp21 w))
  | 0x3E => .ok (.bge (fieldRa w) (fieldDisp21 w))
  | 0x3F => .ok (.bgt (fieldRa w) (fieldDisp21 w))
  | _ => .error (.unlistedFunction (fieldOp w) 0)

/-- A word as an instruction (R132). -/
def decode (w : BitVec 32) : Except DecodeError Instr := decodeMajor (fieldOp w).toNat w

/-- An instruction from its bytes, the one at the lowest address first: the word is little-endian (R70, R131). -/
def decodeBytes : List Byte → Except DecodeError Instr
  | b0 :: b1 :: b2 :: b3 :: _ => decode (b3 ++ b2 ++ b1 ++ b0)
  | short => .error (.tooFewBytes short.length)

/-- The low `n` bytes of a number, the least significant first: how an instruction word lies in memory (R70). -/
def bytesOfNat : Nat → Nat → List Byte
  | 0, _ => []
  | n + 1, v => BitVec.ofNat 8 v :: bytesOfNat n (v / 256)

/-- What the decoder reads from a row's word: `w` laid out as four bytes, bits from `nbits` up being 0. -/
def decodeTableWord (nbits w : Nat) : Option Instr :=
  match decodeBytes (bytesOfNat 4 (w % 2 ^ nbits)) with
  | .ok i => some i
  | .error _ => none

/-! ### The encoder. Ignored fields (R156) are written as the spec's own examples write them (log entry 13). -/

/-- Memory format (R133). -/
def encMem (op : BitVec 6) (ra rb : Reg) (disp : BitVec 16) : BitVec 32 := op ++ ra ++ rb ++ disp

/-- Branch format (R134). -/
def encBra (op : BitVec 6) (ra : Reg) (disp : BitVec 21) : BitVec 32 := op ++ ra ++ disp

/-- Operate format, both forms (R135). -/
def encOpr (op : BitVec 6) (fn : BitVec 7) (ra : Reg) (b : Operand) (rc : Reg) : BitVec 32 :=
  match b with
  | .reg rb => op ++ ra ++ rb ++ 0#3 ++ 0#1 ++ fn ++ rc
  | .lit v => op ++ ra ++ v ++ 1#1 ++ fn ++ rc

/-- Floating operate format (R136). -/
def encFpo (op : BitVec 6) (fa fb fc : Reg) (fn : BitVec 11) : BitVec 32 := op ++ fa ++ fb ++ fn ++ fc

/-- Memory-function format (R138), also the internal-register format (R139). -/
def encMfc (op : BitVec 6) (ra rb : Reg) (fn : BitVec 16) : BitVec 32 := op ++ ra ++ rb ++ fn

/-- Jump format (R138). -/
def encJmp (ty : BitVec 2) (ra rb : Reg) : BitVec 32 := 0x1A#6 ++ ra ++ rb ++ ty ++ 0#14

/-- Hardware memory format (R139). -/
def encHwm (op : BitVec 6) (ra rb : Reg) (q : HwQualifiers) (disp : BitVec 10) : BitVec 32 :=
  op ++ ra ++ rb ++ BitVec.ofBool q.phys ++ BitVec.ofBool q.alt ++ BitVec.ofBool q.mbz13 ++ BitVec.ofBool q.quad ++
    BitVec.ofBool q.mbz11 ++ BitVec.ofBool q.lock ++ disp

/-- The word of an instruction. -/
def encode (i : Instr) : BitVec 32 :=
  match i with
  | .callPal mbz cls n => 0x00#6 ++ mbz ++ BitVec.ofBool cls ++ n
  | .opc01 => 0x01#6 ++ 0#26
  | .opc02 => 0x02#6 ++ 0#26
  | .opc03 => 0x03#6 ++ 0#26
  | .opc04 => 0x04#6 ++ 0#26
  | .opc05 => 0x05#6 ++ 0#26
  | .opc06 => 0x06#6 ++ 0#26
  | .opc07 => 0x07#6 ++ 0#26
  | .lda ra rb disp => encMem 0x08 ra rb disp
  | .ldah ra rb disp => encMem 0x09 ra rb disp
  | .ldbu ra rb disp => encMem 0x0A ra rb disp
  | .ldqU ra rb disp => encMem 0x0B ra rb disp
  | .ldwu ra rb disp => encMem 0x0C ra rb disp
  | .stw ra rb disp => encMem 0x0D ra rb disp
  | .stb ra rb disp => encMem 0x0E ra rb disp
  | .stqU ra rb disp => encMem 0x0F ra rb disp
  | .addl ra b rc => encOpr 0x10 0x00 ra b rc
  | .s4addl ra b rc => encOpr 0x10 0x02 ra b rc
  | .subl ra b rc => encOpr 0x10 0x09 ra b rc
  | .s4subl ra b rc => encOpr 0x10 0x0B ra b rc
  | .cmpbge ra b rc => encOpr 0x10 0x0F ra b rc
  | .s8addl ra b rc => encOpr 0x10 0x12 ra b rc
  | .s8subl ra b rc => encOpr 0x10 0x1B ra b rc
  | .cmpult ra b rc => encOpr 0x10 0x1D ra b rc
  | .addq ra b rc => encOpr 0x10 0x20 ra b rc
  | .s4addq ra b rc => encOpr 0x10 0x22 ra b rc
  | .subq ra b rc => encOpr 0x10 0x29 ra b rc
  | .s4subq ra b rc => encOpr 0x10 0x2B ra b rc
  | .cmpeq ra b rc => encOpr 0x10 0x2D ra b rc
  | .s8addq ra b rc => encOpr 0x10 0x32 ra b rc
  | .s8subq ra b rc => encOpr 0x10 0x3B ra b rc
  | .cmpule ra b rc => encOpr 0x10 0x3D ra b rc
  | .addlV ra b rc => encOpr 0x10 0x40 ra b rc
  | .sublV ra b rc => encOpr 0x10 0x49 ra b rc
  | .cmplt ra b rc => encOpr 0x10 0x4D ra b rc
  | .addqV ra b rc => encOpr 0x10 0x60 ra b rc
  | .subqV ra b rc => encOpr 0x10 0x69 ra b rc
  | .cmple ra b rc => encOpr 0x10 0x6D ra b rc
  | .and ra b rc => encOpr 0x11 0x00 ra b rc
  | .bic ra b rc => encOpr 0x11 0x08 ra b rc
  | .cmovlbs ra b rc => encOpr 0x11 0x14 ra b rc
  | .cmovlbc ra b rc => encOpr 0x11 0x16 ra b rc
  | .bis ra b rc => encOpr 0x11 0x20 ra b rc
  | .cmoveq ra b rc => encOpr 0x11 0x24 ra b rc
  | .cmovne ra b rc => encOpr 0x11 0x26 ra b rc
  | .ornot ra b rc => encOpr 0x11 0x28 ra b rc
  | .xor ra b rc => encOpr 0x11 0x40 ra b rc
  | .cmovlt ra b rc => encOpr 0x11 0x44 ra b rc
  | .cmovge ra b rc => encOpr 0x11 0x46 ra b rc
  | .eqv ra b rc => encOpr 0x11 0x48 ra b rc
  | .amask b rc => encOpr 0x11 0x61 31 b rc
  | .cmovle ra b rc => encOpr 0x11 0x64 ra b rc
  | .cmovgt ra b rc => encOpr 0x11 0x66 ra b rc
  | .implver rc => encOpr 0x11 0x6C 31 (.lit 1) rc
  | .mskbl ra b rc => encOpr 0x12 0x02 ra b rc
  | .extbl ra b rc => encOpr 0x12 0x06 ra b rc
  | .insbl ra b rc => encOpr 0x12 0x0B ra b rc
  | .mskwl ra b rc => encOpr 0x12 0x12 ra b rc
  | .extwl ra b rc => encOpr 0x12 0x16 ra b rc
  | .inswl ra b rc => encOpr 0x12 0x1B ra b rc
  | .mskll ra b rc => encOpr 0x12 0x22 ra b rc
  | .extll ra b rc => encOpr 0x12 0x26 ra b rc
  | .insll ra b rc => encOpr 0x12 0x2B ra b rc
  | .zap ra b rc => encOpr 0x12 0x30 ra b rc
  | .zapnot ra b rc => encOpr 0x12 0x31 ra b rc
  | .mskql ra b rc => encOpr 0x12 0x32 ra b rc
  | .srl ra b rc => encOpr 0x12 0x34 ra b rc
  | .extql ra b rc => encOpr 0x12 0x36 ra b rc
  | .sll ra b rc => encOpr 0x12 0x39 ra b rc
  | .insql ra b rc => encOpr 0x12 0x3B ra b rc
  | .sra ra b rc => encOpr 0x12 0x3C ra b rc
  | .mskwh ra b rc => encOpr 0x12 0x52 ra b rc
  | .inswh ra b rc => encOpr 0x12 0x57 ra b rc
  | .extwh ra b rc => encOpr 0x12 0x5A ra b rc
  | .msklh ra b rc => encOpr 0x12 0x62 ra b rc
  | .inslh ra b rc => encOpr 0x12 0x67 ra b rc
  | .extlh ra b rc => encOpr 0x12 0x6A ra b rc
  | .mskqh ra b rc => encOpr 0x12 0x72 ra b rc
  | .insqh ra b rc => encOpr 0x12 0x77 ra b rc
  | .extqh ra b rc => encOpr 0x12 0x7A ra b rc
  | .mull ra b rc => encOpr 0x13 0x00 ra b rc
  | .mulq ra b rc => encOpr 0x13 0x20 ra b rc
  | .umulh ra b rc => encOpr 0x13 0x30 ra b rc
  | .mullV ra b rc => encOpr 0x13 0x40 ra b rc
  | .mulqV ra b rc => encOpr 0x13 0x60 ra b rc
  | .itfp fa fb fc fn => encFpo 0x14 fa fb fc fn
  | .fltv fa fb fc fn => encFpo 0x15 fa fb fc fn
  | .flti fa fb fc fn => encFpo 0x16 fa fb fc fn
  | .fltl fa fb fc fn => encFpo 0x17 fa fb fc fn
  | .trapb => encMfc 0x18 31 31 0x0000
  | .excb => encMfc 0x18 31 31 0x0400
  | .mb => encMfc 0x18 31 31 0x4000
  | .wmb => encMfc 0x18 31 31 0x4400
  | .fetch rb => encMfc 0x18 31 rb 0x8000
  | .fetchM rb => encMfc 0x18 31 rb 0xA000
  | .rpcc ra => encMfc 0x18 ra 31 0xC000
  | .rc ra => encMfc 0x18 ra 31 0xE000
  | .ecb rb => encMfc 0x18 31 rb 0xE800
  | .rs ra => encMfc 0x18 ra 31 0xF000
  | .wh64 rb => encMfc 0x18 31 rb 0xF800
  | .hwMfpr ra index => encMfc 0x19 ra 31 index
  | .jmp ra rb => encJmp 0 ra rb
  | .jsr ra rb => encJmp 1 ra rb
  | .ret ra rb => encJmp 2 ra rb
  | .jsrCoroutine ra rb => encJmp 3 ra rb
  | .hwLd ra rb q disp => encHwm 0x1B ra rb q disp
  | .sextb b rc => encOpr 0x1C 0x00 31 b rc
  | .sextw b rc => encOpr 0x1C 0x01 31 b rc
  | .hwMtpr rb index => encMfc 0x1D 31 rb index
  | .hwRei rs mbz => 0x1E#6 ++ 0x3FF#10 ++ BitVec.ofBool rs ++ mbz
  | .hwSt ra rb q disp => encHwm 0x1F ra rb q disp
  | .ldf fa rb disp => encMem 0x20 fa rb disp
  | .ldg fa rb disp => encMem 0x21 fa rb disp
  | .lds fa rb disp => encMem 0x22 fa rb disp
  | .ldt fa rb disp => encMem 0x23 fa rb disp
  | .stf fa rb disp => encMem 0x24 fa rb disp
  | .stg fa rb disp => encMem 0x25 fa rb disp
  | .sts fa rb disp => encMem 0x26 fa rb disp
  | .stt fa rb disp => encMem 0x27 fa rb disp
  | .ldl ra rb disp => encMem 0x28 ra rb disp
  | .ldq ra rb disp => encMem 0x29 ra rb disp
  | .ldlL ra rb disp => encMem 0x2A ra rb disp
  | .ldqL ra rb disp => encMem 0x2B ra rb disp
  | .stl ra rb disp => encMem 0x2C ra rb disp
  | .stq ra rb disp => encMem 0x2D ra rb disp
  | .stlC ra rb disp => encMem 0x2E ra rb disp
  | .stqC ra rb disp => encMem 0x2F ra rb disp
  | .br ra disp => encBra 0x30 ra disp
  | .fbeq fa disp => encBra 0x31 fa disp
  | .fblt fa disp => encBra 0x32 fa disp
  | .fble fa disp => encBra 0x33 fa disp
  | .bsr ra disp => encBra 0x34 ra disp
  | .fbne fa disp => encBra 0x35 fa disp
  | .fbge fa disp => encBra 0x36 fa disp
  | .fbgt fa disp => encBra 0x37 fa disp
  | .blbc ra disp => encBra 0x38 ra disp
  | .beq ra disp => encBra 0x39 ra disp
  | .blt ra disp => encBra 0x3A ra disp
  | .ble ra disp => encBra 0x3B ra disp
  | .blbs ra disp => encBra 0x3C ra disp
  | .bne ra disp => encBra 0x3D ra disp
  | .bge ra disp => encBra 0x3E ra disp
  | .bgt ra disp => encBra 0x3F ra disp

/-- Bits 15:13 of the register form are ignored; the literal form ignores none (R156). -/
def operandIgnored : Operand → BitVec 32
  | .reg _ => 0x0000E000
  | .lit _ => 0

/-- The bits of an instruction's word that decoding ignores (R156, R390). -/
def ignoredBits (i : Instr) : BitVec 32 :=
  match i with
  | .callPal _ _ _ => 0
  | .opc01 => 0x03FFFFFF
  | .opc02 => 0x03FFFFFF
  | .opc03 => 0x03FFFFFF
  | .opc04 => 0x03FFFFFF
  | .opc05 => 0x03FFFFFF
  | .opc06 => 0x03FFFFFF
  | .opc07 => 0x03FFFFFF
  | .lda _ _ _ => 0
  | .ldah _ _ _ => 0
  | .ldbu _ _ _ => 0
  | .ldqU _ _ _ => 0
  | .ldwu _ _ _ => 0
  | .stw _ _ _ => 0
  | .stb _ _ _ => 0
  | .stqU _ _ _ => 0
  | .addl _ b _ => operandIgnored b
  | .s4addl _ b _ => operandIgnored b
  | .subl _ b _ => operandIgnored b
  | .s4subl _ b _ => operandIgnored b
  | .cmpbge _ b _ => operandIgnored b
  | .s8addl _ b _ => operandIgnored b
  | .s8subl _ b _ => operandIgnored b
  | .cmpult _ b _ => operandIgnored b
  | .addq _ b _ => operandIgnored b
  | .s4addq _ b _ => operandIgnored b
  | .subq _ b _ => operandIgnored b
  | .s4subq _ b _ => operandIgnored b
  | .cmpeq _ b _ => operandIgnored b
  | .s8addq _ b _ => operandIgnored b
  | .s8subq _ b _ => operandIgnored b
  | .cmpule _ b _ => operandIgnored b
  | .addlV _ b _ => operandIgnored b
  | .sublV _ b _ => operandIgnored b
  | .cmplt _ b _ => operandIgnored b
  | .addqV _ b _ => operandIgnored b
  | .subqV _ b _ => operandIgnored b
  | .cmple _ b _ => operandIgnored b
  | .and _ b _ => operandIgnored b
  | .bic _ b _ => operandIgnored b
  | .cmovlbs _ b _ => operandIgnored b
  | .cmovlbc _ b _ => operandIgnored b
  | .bis _ b _ => operandIgnored b
  | .cmoveq _ b _ => operandIgnored b
  | .cmovne _ b _ => operandIgnored b
  | .ornot _ b _ => operandIgnored b
  | .xor _ b _ => operandIgnored b
  | .cmovlt _ b _ => operandIgnored b
  | .cmovge _ b _ => operandIgnored b
  | .eqv _ b _ => operandIgnored b
  | .amask b _ => 0x03E00000 ||| operandIgnored b
  | .cmovle _ b _ => operandIgnored b
  | .cmovgt _ b _ => operandIgnored b
  | .implver _ => 0x03FFF000
  | .mskbl _ b _ => operandIgnored b
  | .extbl _ b _ => operandIgnored b
  | .insbl _ b _ => operandIgnored b
  | .mskwl _ b _ => operandIgnored b
  | .extwl _ b _ => operandIgnored b
  | .inswl _ b _ => operandIgnored b
  | .mskll _ b _ => operandIgnored b
  | .extll _ b _ => operandIgnored b
  | .insll _ b _ => operandIgnored b
  | .zap _ b _ => operandIgnored b
  | .zapnot _ b _ => operandIgnored b
  | .mskql _ b _ => operandIgnored b
  | .srl _ b _ => operandIgnored b
  | .extql _ b _ => operandIgnored b
  | .sll _ b _ => operandIgnored b
  | .insql _ b _ => operandIgnored b
  | .sra _ b _ => operandIgnored b
  | .mskwh _ b _ => operandIgnored b
  | .inswh _ b _ => operandIgnored b
  | .extwh _ b _ => operandIgnored b
  | .msklh _ b _ => operandIgnored b
  | .inslh _ b _ => operandIgnored b
  | .extlh _ b _ => operandIgnored b
  | .mskqh _ b _ => operandIgnored b
  | .insqh _ b _ => operandIgnored b
  | .extqh _ b _ => operandIgnored b
  | .mull _ b _ => operandIgnored b
  | .mulq _ b _ => operandIgnored b
  | .umulh _ b _ => operandIgnored b
  | .mullV _ b _ => operandIgnored b
  | .mulqV _ b _ => operandIgnored b
  | .itfp _ _ _ _ => 0
  | .fltv _ _ _ _ => 0
  | .flti _ _ _ _ => 0
  | .fltl _ _ _ _ => 0
  | .trapb => 0x03FF0000
  | .excb => 0x03FF0000
  | .mb => 0x03FF0000
  | .wmb => 0x03FF0000
  | .fetch _ => 0x03E00000
  | .fetchM _ => 0x03E00000
  | .rpcc _ => 0x001F0000
  | .rc _ => 0x001F0000
  | .ecb _ => 0x03E00000
  | .rs _ => 0x001F0000
  | .wh64 _ => 0x03E00000
  | .hwMfpr _ _ => 0x001F0000
  | .jmp _ _ => 0x00003FFF
  | .jsr _ _ => 0x00003FFF
  | .ret _ _ => 0x00003FFF
  | .jsrCoroutine _ _ => 0x00003FFF
  | .hwLd _ _ _ _ => 0
  | .sextb b _ => 0x03E00000 ||| operandIgnored b
  | .sextw b _ => 0x03E00000 ||| operandIgnored b
  | .hwMtpr _ _ => 0x03E00000
  | .hwRei _ _ => 0x03FF0000
  | .hwSt _ _ _ _ => 0
  | .ldf _ _ _ => 0
  | .ldg _ _ _ => 0
  | .lds _ _ _ => 0
  | .ldt _ _ _ => 0
  | .stf _ _ _ => 0
  | .stg _ _ _ => 0
  | .sts _ _ _ => 0
  | .stt _ _ _ => 0
  | .ldl _ _ _ => 0
  | .ldq _ _ _ => 0
  | .ldlL _ _ _ => 0
  | .ldqL _ _ _ => 0
  | .stl _ _ _ => 0
  | .stq _ _ _ => 0
  | .stlC _ _ _ => 0
  | .stqC _ _ _ => 0
  | .br _ _ => 0
  | .fbeq _ _ => 0
  | .fblt _ _ => 0
  | .fble _ _ => 0
  | .bsr _ _ => 0
  | .fbne _ _ => 0
  | .fbge _ _ => 0
  | .fbgt _ _ => 0
  | .blbc _ _ => 0
  | .beq _ _ => 0
  | .blt _ _ => 0
  | .ble _ _ => 0
  | .blbs _ _ => 0
  | .bne _ _ => 0
  | .bge _ _ => 0
  | .bgt _ _ => 0

end Sys2Proof
end

