-- ==== Sys2Proof/Machine/Bits.lean ====
section
/-! DEFINITION. Bit-field, extension and byte-order helpers (00_scope R8, R9; 20_memory R70). -/

namespace Sys2Proof.Machine

/-- `sext_N(v)` of R9. -/
def sext (n : Nat) (v : Word) : Word := (v.setWidth n).signExtend 64

/-- `zext_N(v)` of R9. -/
def zext (n : Nat) (v : Word) : Word := (v.setWidth n).setWidth 64

/-- The `n`-bit field `v[lo+n-1:lo]` of R8, zero-extended. -/
def field (v : Word) (lo n : Nat) : Word := BitVec.ofNat 64 (v.toNat / 2 ^ lo % 2 ^ n)

/-- 1 or 0 as a 64-bit value, as the compares and the flag reads write it (R219, R337). -/
def boolWord (b : Bool) : Word := if b then 1 else 0

/-- A value with bits 1:0 cleared, as every write of `PC` stores it (R10, R23). -/
def alignPc (v : Word) : Word := v &&& ~~~3#64

/-- The little-endian value of a list of bytes: the first is bits 7:0 (R70). -/
def leValue : List Byte → Word
  | [] => 0
  | b :: bs => b.setWidth 64 ||| (leValue bs <<< 8)

/-- The `n` low bytes of a value, the least significant first (R70). -/
def leBytes : Nat → Word → List Byte
  | 0, _ => []
  | n + 1, v => v.setWidth 8 :: leBytes n (v >>> 8)

end Sys2Proof.Machine
end

