-- ==== Sys2Proof/Config.lean ====
section
/-! DEFINITION. What an implementation fixes (00_scope R7) and the free values (00_scope R12, R13; 93 U10, U11, U16,
U19): the constants below without a body have no value any proof can use. -/

namespace Sys2Proof

/-- The answer of the floating-point collaborator to one operate instruction (R351). -/
inductive FpAnswer where
  /-- Executed: an optional result, the new control state, the trap causes signalled. -/
  | done (write : Option Word) (fpcr : Word) (traps : BitVec 7)
  /-- This opcode and function is not an instruction of the collaborator. -/
  | reserved
  /-- An operand is not acceptable and the instruction does not complete. -/
  | badOperand
  deriving DecidableEq, Repr, Inhabited

/-- The answer of the I/O collaborator to one access (R76): `miss`, or success (with data for a read). -/
inductive IoAnswer where
  | miss
  | data (v : Word)
  deriving DecidableEq, Repr, Inhabited

/-- The configuration of R7, a field for each parameter with the default the rule shows. `MEMSIZE` has none: it is an
argument. The personality `P` and the collaborators `FP` and `IO`, which are functions, are fields of `Setup`. -/
structure Config where
  /-- `VA_BITS`, implemented virtual-address width. -/
  vaBits        : Nat := 43
  /-- `PA_BITS`, physical-address width. -/
  paBits        : Nat := 44
  /-- `ASN_BITS`, width of an address-space number. -/
  asnBits       : Nat := 8
  /-- `ITLB_SIZE`, slots of the instruction-side table. -/
  itlbSize      : Nat := 48
  /-- `DTLB_SIZE`, slots of the data-side table. -/
  dtlbSize      : Nat := 64
  /-- `PCQ_SIZE`, entries of the PC history queue. -/
  pcqSize       : Nat := 64
  /-- `MEMSIZE`, bytes of RAM from physical address 0. -/
  memSize       : Nat
  /-- `IMPLVER_VALUE`. -/
  implverValue  : Word := 1
  /-- `AMASK_FEATURES`: bit 0, the byte/word extension. -/
  amaskFeatures : Word := 1
  deriving DecidableEq, Repr

namespace Config

/-- `PAGE_BITS`, log2 of the page size, fixed (R7). -/
def pageBits : Nat := 13

/-- `VPN_BITS`, derived (R7). -/
def vpnBits (c : Config) : Nat := c.vaBits - pageBits

/-- `PFN_BITS`, derived (R7). -/
def pfnBits (c : Config) : Nat := c.paBits - pageBits

/-- The column "Constraint" of R7, with the requirement R103 adds: what a configuration must meet (93 U21). -/
structure Valid (c : Config) : Prop where
  vaBits   : 15 ≤ c.vaBits ∧ c.vaBits ≤ 64
  paBits   : 14 ≤ c.paBits ∧ c.paBits ≤ 64
  pfnBits  : c.pfnBits ≤ 32
  asnBits  : 1 ≤ c.asnBits ∧ c.asnBits ≤ 16
  itlbSize : 1 ≤ c.itlbSize
  dtlbSize : 1 ≤ c.dtlbSize
  pcqSize  : ∃ k, c.pcqSize = 2 ^ k
  memSize  : 8 ∣ c.memSize ∧ c.memSize ≤ 2 ^ c.paBits
  window   : c.vaBits - 2 ≤ c.paBits

/-- The test of those constraints. A configuration that fails it is refused: it makes no machine (93 U21,
`Setup.ofConfig`). -/
def check (c : Config) : Bool :=
  decide ((15 ≤ c.vaBits ∧ c.vaBits ≤ 64) ∧ (14 ≤ c.paBits ∧ c.paBits ≤ 64) ∧ c.pfnBits ≤ 32 ∧
    (1 ≤ c.asnBits ∧ c.asnBits ≤ 16) ∧ 1 ≤ c.itlbSize ∧ 1 ≤ c.dtlbSize ∧ c.pcqSize = 2 ^ c.pcqSize.log2 ∧
    (8 ∣ c.memSize ∧ c.memSize ≤ 2 ^ c.paBits) ∧ c.vaBits - 2 ≤ c.paBits)

/-- What the test admits meets the constraints. -/
theorem valid_of_check {c : Config} (h : c.check = true) : c.Valid := by
  obtain ⟨va, pa, pfn, asn, itlb, dtlb, pcq, mem, window⟩ := of_decide_eq_true h
  exact ⟨va, pa, pfn, asn, itlb, dtlb, ⟨_, pcq⟩, mem, window⟩

/-- The configuration the host's machine runs: every default of R7, and for `MEMSIZE`, which has none, 1 MiB, the value of
the spec's own programs (95_test_vectors section 0). DESIGN CHOICE, unsafe (log entry 2). -/
def standard : Config := { memSize := 0x100000 }

theorem standard_valid : standard.Valid := valid_of_check (by decide)

/-- A 64-bit draw (R12 `draw(64)`), used by RPCC (R336). Free value (log entry 6). -/
opaque freeWord : Nat → Word

/-- The draw that chooses among several matching TLB entries (R106). Free value (log entry 7). -/
opaque freeChoice : Nat → Nat

/-- The I/O collaborator's answer to an access for which the state supplies none (R76): of the number of the draw and the
whole access, so that no two answers are related. Free value (log entry 5). -/
opaque ioAnswer : (draw : Nat) → (isWrite : Bool) → (pa : PhysAddr) → (bytes : Nat) → (data : Word) → IoAnswer

/-- The floating-point collaborator: a total deterministic function of its five arguments (R350, R351) about which
the core assumes nothing else. Free value (log entry 8). -/
opaque fpOperate : (op : BitVec 6) → (fn : BitVec 11) → (fav fbv fpcr : Word) → FpAnswer

end Config

end Sys2Proof
end

