-- ==== Sys2Proof/Machine/State.lean ====
section
/-! DEFINITION. The machine state as plain data, holding every piece of state spec/10_state.md names, the inputs of a
step the spec gives the environment (R13, R76, R430), and the reasons a step can stop. `State.reset` is R60 / R480. -/

namespace Sys2Proof.Machine

/-- The kind of a memory access (glossary: X, R, W). -/
inductive Access where
  | execute
  | read
  | write
  deriving DecidableEq, Repr

/-- Which of the two translation tables (glossary: I, D). -/
inductive Side where
  | instruction
  | data
  deriving DecidableEq, Repr

/-- The operand widths (R9, R74). -/
inductive Width where
  | byte
  | word
  | long
  | quad
  deriving DecidableEq, Repr

/-- The 19 fault kinds of R410: four simple tags and five with an access variant. -/
inductive FaultKind where
  | reservedInstruction
  | reservedOperand
  | misalignedOperand
  | floatingDisabled
  | tlbMiss (acc : Access)
  | faultOnReference (acc : Access)
  | accessViolation (acc : Access)
  | translationNotValid (acc : Access)
  | badVirtualAddress (acc : Access)
  deriving DecidableEq, Repr

/-- A valid translation-table entry (R44). Its replacement index `idx` is its position in the slot list. -/
structure TlbEntry where
  tag    : Vpn
  asn    : Asn
  pte    : BitVec 16
  pfn    : Pfn
  ghMask : Vpn
  deriving DecidableEq, Repr

/-- One side's translation table (R45) with its mini-TLB (R46). A slot that is `none` has the tag `INVALID`. -/
structure Tlb where
  slots : List (Option TlbEntry)
  nlu   : Nat
  asn   : Asn
  mini  : Option (Vpn × TlbEntry)
  deriving DecidableEq, Repr

/-- One access presented to the I/O collaborator (R76): address, width and, for a write, the data. -/
inductive IoAccess where
  | read (pa : PhysAddr) (w : Width)
  | write (pa : PhysAddr) (w : Width) (v : Word)
  deriving DecidableEq, Repr

/-- What the last step returned, `Continue` or `HaltRequested` (R130 phase 7, R447). A `Stop` is an outcome. -/
inductive StepReport where
  | running
  | haltRequested
  deriving DecidableEq, Repr

/-- The private state of the NATIVE personality (R43): the latches of R39, R41 and R42, and `halt_req`. Another personality
keeps the same registers in its own (R391, `PrivateRegisters`). -/
structure NativeState where
  /-- Fault latch: kind code (R39). -/
  faultKind : BitVec 5
  /-- Fault latch: fault address (R39). -/
  faultVa   : Word
  /-- Fault latch: privilege mode checked (R39). -/
  faultMode : Mode
  /-- Trap latch (R41). -/
  excSum    : BitVec 7
  /-- Trap latch (R41). -/
  excMask   : Word
  /-- Interrupt latch (R41). -/
  intId     : BitVec 5
  /-- Firmware scratch registers (R42). -/
  palTemp   : Vector Word 24
  /-- Halt request (R447). -/
  haltReq   : Bool
  deriving DecidableEq, Repr

/-- The state of the SUB038 core (10_state.md). `π` is `P.PrivateState` (R43, R440) of the personality the core runs
under; `State` by itself is the state under NATIVE. -/
structure State (π : Type := NativeState) where
  /-- `R0`..`R30` (R20); register 31 has no storage (R22). -/
  regs       : Vector Word 31
  /-- `F0`..`F30` (R21). -/
  fregs      : Vector Word 31
  /-- `PC` (R23). -/
  pc         : Word
  /-- PC history queue, `PCQ_SIZE` entries (R24). -/
  pcq        : List Word
  /-- Index of the queue's most recent entry (R24). -/
  pcqP       : Nat
  /-- R26. -/
  lockFlag   : Bool
  /-- R27. -/
  intrFlag   : Bool
  /-- R28. -/
  fpcr       : Word
  /-- Current privilege mode (R30). -/
  cm         : Mode
  /-- In firmware (R31). -/
  palMode    : Bool
  /-- Interrupt priority level (R32). -/
  ipl        : BitVec 5
  /-- Floating-point enable (R33). -/
  fpen       : Bool
  /-- Exception-address register (R34). -/
  excAddr    : Word
  /-- Firmware base address (R35). -/
  palBase    : PhysAddr
  /-- Shadow-exchange enable (R36). -/
  sde        : Bool
  /-- An exchange is in force (R36). -/
  shdwActive : Bool
  /-- Firmware-private storage of the shadow registers (R36). -/
  shadow     : Vector Word 8
  /-- Instruction-side superpage enable (R37). -/
  ispe       : Bool
  /-- Data-side superpage enable (R37). -/
  dspe       : Bool
  /-- Alternate privilege mode of `HW_LD`, `HW_ST` (R38). -/
  altMode    : Mode
  /-- Trap summary (R40). -/
  trapSumm   : BitVec 7
  /-- Trap destination-register mask (R40). -/
  trapMask   : Word
  /-- The personality's private state `ps : P.PrivateState` (R43). -/
  ps         : π
  /-- Instruction-side table (R45, R46). -/
  itlb       : Tlb
  /-- Data-side table (R45, R46). -/
  dtlb       : Tlb
  /-- Tag latch (R47). -/
  itbTag     : Vpn
  /-- Tag latch (R47). -/
  dtbTag     : Vpn
  /-- RAM (R72), in canonical form (Machine/Memory.lean). -/
  mem        : List Host.Cell
  /-- Input: the request vector this step samples, bit `l-1` being `irq[l]` (R430). -/
  irq        : BitVec 31
  /-- Input: the vectors the coming steps sample, one each; when it is empty the lines hold (log entry 4). -/
  irqNext    : List (BitVec 31)
  /-- Input: answers the I/O collaborator gives to the coming accesses, one each (R76; log entry 5). -/
  ioAnswers  : List IoAnswer
  /-- The accesses presented to the I/O collaborator, newest first (R76, R85; log entry 5). -/
  ioLog      : List IoAccess
  /-- The model's own: how many draws were taken (R12; log entries 5, 6, 7). -/
  draws      : Nat
  /-- What the last step returned (R130 phase 7; log entry 9). -/
  report     : StepReport
  deriving DecidableEq, Repr

/-- Why a step stops (R416). After a stop the spec says nothing of further steps (R498), so each is safe. -/
inductive Fault where
  /-- `STOP_NXM`: raised by a physical access outside RAM (a fetch, a load, a store, or one of a personality's callback) that
  the I/O collaborator answers with a miss (R77). Safe: the spec ends the run there. -/
  | stopNxm
  /-- `STOP_ENGINE`: raised by `TlbLoad` when the replacement pointer is outside the table (R114). Safe; unreachable
  from reset. -/
  | stopEngine
  /-- `STOP_CONFIG`: raised when a personality answers `Unexpected` to a fault kind (R446). Safe; NATIVE never does. -/
  | stopConfig
  /-- A personality's callback answered `Stop(code)` (R416). Safe; NATIVE never does. -/
  | stopPersonality (code : Nat)
  deriving DecidableEq, Repr

/-- Why the model declines an instruction. -/
inductive Refusal where
  /-- Raised by an arm of `exec` whose instruction has no meaning yet; no arm is left so. Safe: nothing is claimed. -/
  | notModelled (mnemonic : String)
  deriving DecidableEq, Repr

/-- The table with every slot invalid (R45, R113). -/
def Tlb.empty (size : Nat) : Tlb :=
  { slots := List.replicate size none, nlu := 0, asn := 0, mini := none }

/-- NATIVE `reset_private` (R440, R480). `pal_temp` is unspecified and 0 here: DESIGN CHOICE, unsafe (log entry 1). -/
def NativeState.reset : NativeState where
  faultKind := 0
  faultVa := 0
  faultMode := 0
  excSum := 0
  excMask := 0
  intId := 0
  palTemp := Vector.replicate 24 0
  haltReq := false

/-- The reset state of R480 for a configuration, the personality's `reset_pc`, `reset_pal_mode` and `reset_private`, and
RAM as the boot collaborator left it (R487). `PC` is written as every write of it is (R23). The fields the spec calls
unspecified are 0 here: DESIGN CHOICE, unsafe (log entry 1). -/
def State.resetFor {π : Type} (c : Config) (resetPc : Word) (resetPalMode : Bool) (resetPrivate : π)
    (ram : List Host.Cell) : State π where
  regs := Vector.replicate 31 0
  fregs := Vector.replicate 31 0
  pc := alignPc resetPc
  pcq := List.replicate c.pcqSize 0
  pcqP := 0
  lockFlag := false
  intrFlag := false
  fpcr := 0
  cm := 0
  palMode := resetPalMode
  ipl := 31
  fpen := false
  excAddr := 0
  palBase := 0
  sde := false
  shdwActive := false
  shadow := Vector.replicate 8 0
  ispe := false
  dspe := false
  altMode := 0
  trapSumm := 0
  trapMask := 0
  ps := resetPrivate
  itlb := Tlb.empty c.itlbSize
  dtlb := Tlb.empty c.dtlbSize
  itbTag := 0
  dtbTag := 0
  mem := ram
  irq := 0
  irqNext := []
  ioAnswers := []
  ioLog := []
  draws := 0
  report := .running

/-- The machine right after reset under NATIVE (`reset_pc = 0`, `reset_pal_mode = 1`, R442, R480), in the standard
configuration, with no RAM image: RAM lists nothing (log entry 3). -/
def State.reset : State := State.resetFor Config.standard 0 true NativeState.reset []

end Sys2Proof.Machine
end

