-- ==== Sys2Proof/Machine/Memory.lean ====
section
/-! DEFINITION. RAM as a list of (address, byte) pairs in one canonical form: addresses strictly rising and no entry
equal to what an unlisted address reads as (20_memory R72, R75, R81). -/

namespace Sys2Proof.Machine

/-- What an address that is not listed reads as. The spec leaves RAM that no image supplies unspecified (R60, R487);
0 is a DESIGN CHOICE, unsafe (log entry 3). -/
def Memory.unlisted : Byte := 0

/-- The byte at an address. -/
def Memory.readByte : List Host.Cell → Nat → Byte
  | [], _ => Memory.unlisted
  | (k, b) :: rest, a => if k = a then b else if a < k then Memory.unlisted else Memory.readByte rest a

/-- A new first entry, left out when it holds what an unlisted address reads as. -/
def Memory.cons (a : Nat) (v : Byte) (rest : List Host.Cell) : List Host.Cell :=
  if v = Memory.unlisted then rest else (a, v) :: rest

/-- Memory with one byte written, still in canonical form. -/
def Memory.writeByte : List Host.Cell → Nat → Byte → List Host.Cell
  | [], a, v => Memory.cons a v []
  | (k, b) :: rest, a, v =>
    if k = a then Memory.cons a v rest
    else if a < k then Memory.cons a v ((k, b) :: rest)
    else (k, b) :: Memory.writeByte rest a v

/-- The `n` bytes from an address up, the one at the address first. -/
def Memory.readBytes (m : List Host.Cell) (a : Nat) : Nat → List Byte
  | 0 => []
  | n + 1 => Memory.readByte m a :: Memory.readBytes m (a + 1) n

/-- Memory with a list of bytes stored from an address up (R75, R487). -/
def Memory.writeBytes (m : List Host.Cell) (a : Nat) : List Byte → List Host.Cell
  | [] => m
  | b :: bs => Memory.writeBytes (Memory.writeByte m a b) (a + 1) bs

/-- Addresses strictly rising from a lower bound, and no entry holds the unlisted byte. -/
def Memory.wfFrom : Nat → List Host.Cell → Bool
  | _, [] => true
  | lo, (k, b) :: rest => decide (lo ≤ k) && b != Memory.unlisted && Memory.wfFrom (k + 1) rest

/-- The canonical form. -/
def Memory.wf (m : List Host.Cell) : Bool := Memory.wfFrom 0 m

end Sys2Proof.Machine
end

