-- ==== Sys2Proof/Machine/Setup.lean ====
section
/-! DEFINITION. What a step is a function of besides the state (00_scope R14): the configuration, the firmware personality
as a record of callbacks, each a program of interface calls (60_exceptions R440, R441), the floating-point and I/O collaborators (46_floating_interface R350;
20_memory R76). -/

namespace Sys2Proof.Machine

variable {π : Type}

/-- The miss policy of one side (R107). -/
inductive MissPolicy where
  | fault
  | walk
  deriving DecidableEq, Repr

/-- The side an access uses (R100). -/
def Access.side : Access → Side
  | .execute => .instruction
  | .read => .data
  | .write => .data

/-- The fault kinds `Translate` may raise under a miss policy: a TLB-miss kind only of a side whose policy is FAULT (R446).
The other kinds are not restricted. -/
def FaultKind.raisable (policy : Side → MissPolicy) : FaultKind → Bool
  | .tlbMiss acc => policy acc.side == .fault
  | _ => true

/-! ### Callbacks as programs of interface calls (R440, R441)

A callback "acts on the machine state only through the defined interface calls" (R440). So it is a program of them: what a
call is, what it answers, and what the callback then does. The engine runs the program (Machine/Callback.lean). That the
calls are these is read from R441: DEDUCED (log entry 10). -/

/-- The answer of a page-table walk (R440): a 64-bit PTE, or a fault kind that `Translate` may raise
(R446): DEDUCED (log entry 22). -/
inductive WalkAnswer (policy : Side → MissPolicy) where
  | pte (p : Word)
  | fault (k : FaultKind) (expected : k.raisable policy = true := by decide)
  deriving DecidableEq, Repr

/-- A page-table walk (R440): it reads physical memory, changes nothing and answers. A read is taken as it is asked, misaligned
or at or above `2^PA_BITS` too: DESIGN CHOICE (log entry 18). -/
inductive Walk (policy : Side → MissPolicy) where
  | answer (a : WalkAnswer policy)
  | read (pa : PhysAddr) (w : Width) (next : Word → Walk policy)

/-- A change R441 allows a callback that neither accesses memory nor can fail, `π` being the private state. There is none of
the history queue, `trap_summ`, `trap_mask`, a floating register, `fpcr` or any other field the rule does not list. -/
inductive CallbackUpdate (π : Type) where
  | pc (v : Word)
  | cm (m : Mode)
  | ipl (l : BitVec 5)
  | palMode (b : Bool)
  | excAddr (v : Word)
  | writeInt (r : Reg) (v : Word)
  /-- The shadow cells, through `Exchange` only. -/
  | exchange
  | lockFlag (b : Bool)
  /-- `SetASN` (R111). -/
  | setAsn (side : Side) (a : Asn)
  /-- `InvalidateSingle` (R112). -/
  | invalidateSingle (side : Side) (va : Word)
  /-- `InvalidateAll` (R113). -/
  | invalidateAll (side : Side) (includeGlobal : Bool)
  /-- The personality's own private state (R43). -/
  | privateState (p : π)
  /-- The entry primitive of the core, which a personality may use (R420). -/
  | enterFirmware (offset : BitVec 15) (resume : Word)
  deriving DecidableEq, Repr

/-- An interface call that can meet a fault or stop the step. An access is made as it is asked, misaligned or at or above
`2^PA_BITS` too (a virtual one is translated, not tested as R78 tests an instruction's): DESIGN CHOICE (log entry 18). -/
inductive CallbackCall where
  | memRead (pa : PhysAddr) (w : Width)
  | memWrite (pa : PhysAddr) (w : Width) (v : Word)
  | vread (va : Word) (w : Width) (m : Mode)
  | vwrite (va : Word) (w : Width) (v : Word) (m : Mode)
  /-- `TlbLoad` (R110). -/
  | tlbLoad (side : Side) (vpn : Vpn) (pte : Word)
  deriving DecidableEq, Repr

/-- What a call answers the callback: a value (0 where there is none to give), or the fault it met, which is the
callback's to resolve (R441). A call that stops answers nothing: the step is over (R77, R130). -/
inductive CallAnswer where
  | value (v : Word)
  | fault (k : FaultKind) (va : Word) (m : Mode)
  deriving DecidableEq, Repr

/-- A callback that answers `α`: it may look at the state, change it, call, and answer. -/
inductive Callback (π α : Type) where
  | answer (a : α)
  | inspect (next : State π → Callback π α)
  | update (u : CallbackUpdate π) (next : Callback π α)
  | call (c : CallbackCall) (next : CallAnswer → Callback π α)

/-- The answer of `enter_on_interrupt` and `enter_on_trap` (R440): `S'`, which is the state the callback leaves, or
`Stop(code)`. -/
inductive EntryAnswer where
  | entered
  | stop (code : Nat)
  deriving DecidableEq, Repr

/-- The answer of `enter_on_exception` (R440, R446): `S'`, `Unexpected` or `Stop(code)`. -/
inductive ExceptionAnswer where
  | entered
  | unexpected
  | stop (code : Nat)
  deriving DecidableEq, Repr

/-- The answer of `execute_privileged_opcode` (R381, R440). `Done` comes in two forms, because NATIVE's is "Done with PC
as set" (R442): `done` leaves the engine to advance the PC, `doneAt` leaves the PC the callback set (log entry 10). -/
inductive OpcodeAnswer where
  | done
  | doneAt
  | again
  | fault (k : FaultKind) (va : Word)
  | stop (code : Nat)
  deriving DecidableEq, Repr

/-- Where a private state keeps the registers of R49 that are private state (R39, R41, R42, R447). The core executes the
whole map under every personality (R391), so each has them: they are read and written as a block, which holds what was
last written to it and nothing else of the private state (log entry 10). -/
structure PrivateRegisters (π : Type) where
  get     : π → NativeState
  set     : NativeState → π → π
  get_set : ∀ n p, get (set n p) = n
  set_get : ∀ p, set (get p) p = p
  set_set : ∀ n m p, set n (set m p) = set n p

/-- The personality record `P` of R440; `π` is its `PrivateState`, which no rule of the core looks into (R43) but through
`registers`. -/
structure Personality (π : Type) where
  resetPrivate            : π
  resetPc                 : Word
  resetPalMode            : Bool
  missPolicy              : Side → MissPolicy
  evalPendingInterrupt    : BitVec 5 → BitVec 31 → State π → Fin 32
  enterOnInterrupt        : Fin 32 → Word → State π → Callback π EntryAnswer
  enterOnTrap             : BitVec 7 → Word → Word → State π → Callback π EntryAnswer
  enterOnException        : FaultKind → Word → Mode → Word → State π → Callback π ExceptionAnswer
  executePrivilegedOpcode : BitVec 8 → State π → Callback π OpcodeAnswer
  walkPageTable           : Vpn → Side → Access → State π → Walk missPolicy
  /-- The private registers of the internal-register map. -/
  registers               : PrivateRegisters π

/-- The parameters of the step (R7, R14): a configuration within R7's constraints, `P`, `FP` and `IO`. There is no machine
with a configuration outside them (93 U21). The collaborator `IO` is asked with the
number of the draw and the access, so that two reads of one address need not agree (R76). -/
structure Setup (π : Type) extends Config where
  personality : Personality π
  fp          : (op : BitVec 6) → (fn : BitVec 11) → (fav fbv fpcr : Word) → FpAnswer
  io          : Nat → IoAccess → IoAnswer
  /-- The column "Constraint" of R7. -/
  valid       : toConfig.Valid

/-- The machine with a configuration, a personality and collaborators; `none` refuses a configuration outside R7's
constraints (93 U21). -/
def Setup.ofConfig (c : Config) (personality : Personality π)
    (fp : BitVec 6 → BitVec 11 → Word → Word → Word → FpAnswer) (io : Nat → IoAccess → IoAnswer) : Option (Setup π) :=
  if h : c.check = true then
    some { toConfig := c, personality := personality, fp := fp, io := io, valid := Config.valid_of_check h }
  else none

/-- `Reset(P, ram_image)` of R480. Cells of the image at `MEMSIZE` or above are kept as they are given: DESIGN CHOICE (log
entry 26). -/
def Setup.reset (M : Setup π) (ram : List Host.Cell) : State π :=
  State.resetFor M.toConfig M.personality.resetPc M.personality.resetPalMode M.personality.resetPrivate ram

/-- The private registers of the internal-register map (R49). -/
def State.privateRegisters (s : State π) (M : Setup π) : NativeState := M.personality.registers.get s.ps

/-- The state with the private registers replaced, the rest of the private state as it was. -/
def State.setPrivate (s : State π) (M : Setup π) (n : NativeState) : State π :=
  { s with ps := M.personality.registers.set n s.ps }

/-- Slots of a side's table (R7, R45). -/
def Setup.tlbSize (M : Setup π) : Side → Nat
  | .instruction => M.itlbSize
  | .data => M.dtlbSize

end Sys2Proof.Machine
end

