-- ==== Sys2Proof/Machine/Ops.lean ====
section
/-! DEFINITION. The named operations over registers, memory and the firmware state: the primitives of 00_scope R10 to
R12, the physical access of 20_memory R75 to R77, the history queue R24, the shadow exchange R36, entry into firmware
(60_exceptions R420) and the return from it (47_firmware_opcodes R389). -/

namespace Sys2Proof.Machine

variable {π : Type}

/-! ### Results (60_exceptions R417) -/

/-- What part of an instruction ends in: a value and the state so far, a raised fault context `(K, va, m)` with the
state it was raised in (R12, R412), or a stop (R416). -/
inductive Result (π α : Type) where
  | ok (a : α) (s : State π)
  | raised (k : FaultKind) (va : Word) (m : Mode) (s : State π)
  | stopped (f : Fault)
  deriving DecidableEq, Repr

/-- Go on with the value and the state, or pass on what ended the instruction. -/
def Result.andThen {α β : Type} (r : Result π α) (f : α → State π → Result π β) : Result π β :=
  match r with
  | .ok a s => f a s
  | .raised k va m s => .raised k va m s
  | .stopped c => .stopped c

/-- `raise K(va)` for the kinds that `Translate` does not raise: the mode is `cm` (R412). -/
def raise {α : Type} (k : FaultKind) (va : Word) (s : State π) : Result π α := .raised k va s.cm s

/-! ### Register files (00_scope R10, 10_state R22) -/

/-- `x[i]`: integer register `i`, 0 for `i = 31`. -/
def State.readInt (s : State π) (r : Reg) : Word :=
  if h : r.toNat < 31 then s.regs[r.toNat] else 0

/-- `x[i] <- v`: nothing happens for `i = 31`. -/
def State.writeInt (s : State π) (r : Reg) (v : Word) : State π :=
  if h : r.toNat < 31 then { s with regs := s.regs.set r.toNat v } else s

/-- `f[i]`: floating register `i`, 0 for `i = 31`. -/
def State.readFp (s : State π) (r : Reg) : Word :=
  if h : r.toNat < 31 then s.fregs[r.toNat] else 0

/-- `f[i] <- v`: nothing happens for `i = 31`. -/
def State.writeFp (s : State π) (r : Reg) (v : Word) : State π :=
  if h : r.toNat < 31 then { s with fregs := s.fregs.set r.toNat v } else s

/-! ### Program counter and history queue (10_state R23, R24) -/

/-- `npc`, the address after the instruction's own (R10). -/
def State.npc (s : State π) : Word := s.pc + 4

/-- `pc <- t`: every write of `PC` clears bits 1:0 (R10, R23). -/
def State.setPc (s : State π) (t : Word) : State π := { s with pc := alignPc t }

/-- An instruction that transfers no control ends with `PC = npc` (R23). -/
def State.advance (s : State π) : State π := s.setPc s.npc

/-- Push a PC on the history queue: the pointer is decremented modulo its size, then the value stored (R24). -/
def State.pushPc (s : State π) (v : Word) : State π :=
  let p := (s.pcqP + s.pcq.length - 1) % s.pcq.length
  { s with pcqP := p, pcq := s.pcq.set p v }

/-- The `k`-th most recent entry of the history queue, 0 the latest (R49 `PCQk`). -/
def State.pcqEntry (s : State π) (k : Nat) : Word := s.pcq.getD ((s.pcqP + k) % s.pcq.length) 0

/-! ### Traps (00_scope R12, 10_state R40) -/

/-- `trap(bits, reg)`: `reg` is 0 to 31 for an integer register, 32 + i for floating register i. -/
def State.trap (s : State π) (bits : BitVec 7) (reg : BitVec 6) : State π :=
  { s with trapSumm := s.trapSumm ||| bits, trapMask := s.trapMask ||| (1#64 <<< reg.toNat) }

/-! ### Physical access (20_memory R70, R72, R75, R76, R77) -/

/-- Bytes moved by an access of a width (R74). -/
def Width.bytes : Width → Nat
  | .byte => 1
  | .word => 2
  | .long => 4
  | .quad => 8

/-- The low `8n` bits of a value, as an access of that width carries them. -/
def Width.trunc (w : Width) (v : Word) : Word :=
  match w with
  | .byte => zext 8 v
  | .word => zext 16 v
  | .long => zext 32 v
  | .quad => v

/-- A physical address is RAM when it is below `MEMSIZE`; an access is routed by its first byte (R72). -/
def isRam (M : Setup π) (pa : PhysAddr) : Bool := pa.toNat < M.memSize

/-- Present one access to the I/O collaborator and take its answer: the next one the state supplies, else the one `IO`
gives (R76; log entry 5). -/
def askIo (M : Setup π) (a : IoAccess) (s : State π) : IoAnswer × State π :=
  let s1 := { s with ioLog := a :: s.ioLog }
  match s.ioAnswers with
  | ans :: rest => (ans, { s1 with ioAnswers := rest })
  | [] => (M.io s.draws a, { s1 with draws := s.draws + 1 })

/-- `MemRead(pa, n)` of R75, zero-extended to 64 bits. -/
def memRead (M : Setup π) (pa : PhysAddr) (w : Width) (s : State π) : Result π Word :=
  if isRam M pa then .ok (leValue (Memory.readBytes s.mem pa.toNat w.bytes)) s
  else
    match askIo M (.read pa w) s with
    | (.data v, s') => .ok (w.trunc v) s'
    | (.miss, _) => .stopped .stopNxm

/-- `MemWrite(pa, n, v)` of R75. -/
def memWrite (M : Setup π) (pa : PhysAddr) (w : Width) (v : Word) (s : State π) : Result π Unit :=
  if isRam M pa then .ok () { s with mem := Memory.writeBytes s.mem pa.toNat (leBytes w.bytes v) }
  else
    match askIo M (.write pa w (w.trunc v)) s with
    | (.data _, s') => .ok () s'
    | (.miss, _) => .stopped .stopNxm

/-- A state with the record of the accesses another made: the log, the answers left and the draws. -/
def State.withAccessRecord (s t : State π) : State π :=
  { s with ioAnswers := t.ioAnswers, ioLog := t.ioLog, draws := t.draws }

/-- The boot collaborator: a byte stream written into RAM from an origin up, before the machine runs (R487). A stream that runs
past `MEMSIZE` is neither cut nor refused, its excess is kept as if RAM went on: DESIGN CHOICE (log entry 26). -/
def State.loadImage (s : State π) (origin : Nat) (bytes : List Byte) : State π :=
  { s with mem := Memory.writeBytes s.mem origin bytes }

/-! ### Shadow registers (10_state R36) -/

/-- The shadow set `S`, each register with the cell it pairs with. -/
def shadowSet : List (Reg × Fin 8) :=
  [(8, 0), (9, 1), (10, 2), (11, 3), (12, 4), (13, 5), (14, 6), (25, 7)]

/-- Swap one register with its cell. -/
def State.swapShadow (s : State π) (p : Reg × Fin 8) : State π :=
  let old := s.readInt p.1
  let s1 := s.writeInt p.1 (s.shadow[p.2.val]'p.2.isLt)
  { s1 with shadow := s1.shadow.set p.2.val old p.2.isLt }

/-- `Exchange`: swap every pair and complement `shdw_active`. -/
def State.exchange (s : State π) : State π :=
  let s1 := shadowSet.foldl State.swapShadow s
  { s1 with shdwActive := !s1.shdwActive }

/-! ### Taking an exception and returning from one (60_exceptions R420, 47_firmware_opcodes R389) -/

/-- What `exc_addr` records: bits 63:2 of the resuming PC, bit 1 zero, bit 0 the firmware flag (R34). -/
def packExcAddr (resume : Word) (pal : Bool) : Word := alignPc resume ||| boolWord pal

/-- `EnterFirmware(offset, resume)` of R420: the one entry primitive, shared by faults, traps, interrupts and
`CALL_PAL` under NATIVE. -/
def State.enterFirmware (s : State π) (offset : BitVec 15) (resume : Word) : State π :=
  let s1 := { s with excAddr := packExcAddr resume s.palMode }
  let s2 := if s1.sde && !s1.shdwActive then s1.exchange else s1
  { s2 with palMode := true }.setPc (s2.palBase + offset.setWidth 64)

/-- The body of `HW_REI` (R389): back to `exc_addr`, with the shadow registers when `rs` is set, an exchange is in force
and the return leaves firmware mode. -/
def State.returnFromFirmware (s : State π) (rs : Bool) : State π :=
  let s1 := s.pushPc s.pc
  let t := s1.excAddr
  let s2 := if rs && s1.shdwActive && !t.getLsbD 0 then s1.exchange else s1
  { s2 with palMode := t.getLsbD 0, lockFlag := false }.setPc t

/-- The privileged opcodes are legal in firmware mode and in kernel mode (R380). -/
def State.privileged (s : State π) : Bool := s.palMode || s.cm == 0

/-- The legality test of R380, which comes before everything else an opcode does. -/
def requirePrivileged (s : State π) : Result π Unit :=
  if s.privileged then .ok () s else raise .reservedInstruction 0 s

/-- The floating-point enable test of R354. -/
def requireFp (s : State π) : Result π Unit :=
  if s.fpen then .ok () s else raise .floatingDisabled 0 s

end Sys2Proof.Machine
end

