-- ==== Sys2Proof/Machine/Tlb.lean ====
section
/-! DEFINITION. The translation tables and their operations (10_state R44 to R46; 20_memory R101, R104 to R106, R110 to
R114). -/

namespace Sys2Proof.Machine

variable {π : Type}

/-- One side's table. -/
def State.tlb (s : State π) : Side → Tlb
  | .instruction => s.itlb
  | .data => s.dtlb

/-- The state with one side's table replaced. -/
def State.setTlb (s : State π) (side : Side) (t : Tlb) : State π :=
  match side with
  | .instruction => { s with itlb := t }
  | .data => { s with dtlb := t }

/-! ### PTE fields (R101) -/

/-- V, bit 0. -/
def pteValid (pte : BitVec 16) : Bool := pte.getLsbD 0

/-- ASM, bit 4: the entry is address-space-global. -/
def pteGlobal (pte : BitVec 16) : Bool := pte.getLsbD 4

/-- FOR, FOW, FOE (bits 1, 2, 3): the fault-on-reference bit of an access. -/
def pteFaultOn (pte : BitVec 16) : Access → Bool
  | .read => pte.getLsbD 1
  | .write => pte.getLsbD 2
  | .execute => pte.getLsbD 3

/-- The enable bit an access needs: write enable 12 + m for W, read enable 8 + m for R and X (R108). -/
def pteEnable (pte : BitVec 16) (acc : Access) (m : Mode) : Bool :=
  match acc with
  | .write => pte.getLsbD (12 + m.toNat)
  | .read => pte.getLsbD (8 + m.toNat)
  | .execute => pte.getLsbD (8 + m.toNat)

/-- `2^(3*gh) - 1`, the wildcarded low tag bits (R44, R110). -/
def ghMask (gh : BitVec 2) : Vpn := (1#64 <<< (3 * gh.toNat)) - 1

/-- `va[VA_BITS-1:13]` (R100). -/
def vpnOf (M : Setup π) (va : Word) : Vpn := field va Config.pageBits M.vpnBits

/-! ### Lookup (R104 to R106) -/

/-- The tag test of an entry, honouring its wildcards. -/
def TlbEntry.covers (e : TlbEntry) (vpn : Vpn) : Bool := (vpn &&& ~~~e.ghMask) == e.tag

/-- The valid entries of a table that match a page in the table's current ASN (R105). -/
def Tlb.matching (t : Tlb) (vpn : Vpn) : List TlbEntry :=
  t.slots.filterMap fun slot =>
    match slot with
    | some e => if e.asn == t.asn && e.covers vpn then some e else none
    | none => none

/-- The mini-TLB's answer (R104). -/
def Tlb.miniHit (t : Tlb) (vpn : Vpn) : Option TlbEntry :=
  match t.mini with
  | some (_, e) => if e.covers vpn then some e else none
  | none => none

/-- Any one of the matching entries: a draw when there are several (R106; log entry 7). -/
def State.chooseMatch (s : State π) : List TlbEntry → Option TlbEntry × State π
  | [] => (none, s)
  | [e] => (some e, s)
  | e :: es => ((e :: es)[Config.freeChoice s.draws % (es.length + 1)]?, { s with draws := s.draws + 1 })

/-- `Lookup(s, vpn)` of R104. -/
def State.lookup (s : State π) (side : Side) (vpn : Vpn) : Option TlbEntry × State π :=
  match (s.tlb side).miniHit vpn with
  | some e => (some e, s)
  | none => s.chooseMatch ((s.tlb side).matching vpn)

/-! ### Operations (R110 to R113) -/

/-- The lowest slot holding a valid entry with this tag in the current ASN. -/
def Tlb.slotOf (t : Tlb) (tag : Vpn) : Option Nat :=
  t.slots.findIdx? fun slot =>
    match slot with
    | some e => e.tag == tag && e.asn == t.asn
    | none => false

/-- The entry `TlbLoad` builds from a 64-bit PTE (R101, R110). -/
def pteEntry (M : Setup π) (asn : Asn) (vpn : Vpn) (p : Word) : TlbEntry :=
  let msk := ghMask (p.extractLsb' 5 2)
  { tag := vpn &&& ~~~msk
    asn := asn
    pte := p.extractLsb' 0 16
    pfn := field p 32 M.pfnBits &&& ~~~msk
    ghMask := msk }

/-- `TlbLoad(s, vpn, p)` of R110. -/
def tlbLoad (M : Setup π) (side : Side) (vpn : Vpn) (p : Word) (s : State π) : Result π TlbEntry :=
  let t := s.tlb side
  let e := pteEntry M t.asn vpn p
  match t.slotOf e.tag with
  | some slot => .ok e (s.setTlb side { t with slots := t.slots.set slot (some e), mini := none })
  | none =>
    if t.nlu < M.tlbSize side then
      .ok e (s.setTlb side
        { t with slots := t.slots.set t.nlu (some e), nlu := (t.nlu + 1) % M.tlbSize side, mini := none })
    else .stopped .stopEngine

/-- `SetASN(s, a)` of R111: global entries are re-tagged, the others stay committed for their ASN. -/
def setAsn (side : Side) (a : Asn) (s : State π) : State π :=
  let t := s.tlb side
  let retag : Option TlbEntry → Option TlbEntry := fun slot =>
    match slot with
    | some e => if pteGlobal e.pte then some { e with asn := a } else some e
    | none => none
  s.setTlb side { t with slots := t.slots.map retag, asn := a, mini := none }

/-- One side of `InvalidateSingle` (R112): every entry that matches the page now becomes invalid. -/
def invalidateSingle (M : Setup π) (side : Side) (va : Word) (s : State π) : State π :=
  let t := s.tlb side
  let drop : Option TlbEntry → Option TlbEntry := fun slot =>
    match slot with
    | some e => if e.asn == t.asn && e.covers (vpnOf M va) then none else some e
    | none => none
  s.setTlb side { t with slots := t.slots.map drop, mini := none }

/-- `InvalidateAll(s, include_global)` of R113. -/
def invalidateAll (side : Side) (includeGlobal : Bool) (s : State π) : State π :=
  let t := s.tlb side
  let drop : Option TlbEntry → Option TlbEntry := fun slot =>
    match slot with
    | some e => if includeGlobal || !pteGlobal e.pte then none else some e
    | none => none
  s.setTlb side
    { t with slots := t.slots.map drop, nlu := if includeGlobal then 0 else t.nlu, mini := none }

end Sys2Proof.Machine
end

