-- ==== Sys2Proof/Machine/Personality.lean ====
section
/-! DEFINITION. Fault codes and entry offsets (60_exceptions R410, R443), the NATIVE personality (R442) and the parameters of
the host's machine. -/

namespace Sys2Proof.Machine

/-- The variant's number in a fault code: instruction 0, read 1, write 2 (R410). -/
def Access.code : Access → BitVec 5
  | .execute => 0
  | .read => 1
  | .write => 2

/-- The numeric code of a fault kind (R410). -/
def FaultKind.code : FaultKind → BitVec 5
  | .reservedInstruction => 0x01
  | .reservedOperand => 0x02
  | .misalignedOperand => 0x03
  | .floatingDisabled => 0x04
  | .tlbMiss a => 0x08 + a.code
  | .faultOnReference a => 0x10 + a.code
  | .accessViolation a => 0x14 + a.code
  | .translationNotValid a => 0x18 + a.code
  | .badVirtualAddress a => 0x1C + a.code

/-- `VEC(K)`: the NATIVE entry offset of a fault kind (R443). -/
def FaultKind.vector : FaultKind → BitVec 15
  | .reservedInstruction => 0x0480
  | .reservedOperand => 0x0600
  | .misalignedOperand => 0x0300
  | .floatingDisabled => 0x0580
  | .tlbMiss .execute => 0x0180
  | .tlbMiss .read => 0x0200
  | .tlbMiss .write => 0x0200
  | .faultOnReference .execute => 0x0080
  | .accessViolation .execute => 0x0080
  | .translationNotValid .execute => 0x0080
  | .badVirtualAddress .execute => 0x0080
  | .faultOnReference _ => 0x0380
  | .accessViolation _ => 0x0380
  | .translationNotValid _ => 0x0380
  | .badVirtualAddress _ => 0x0380

/-- The greatest level in 1..n that is asserted and above `ipl`, or 0 (R431). -/
def highestPending (ipl : BitVec 5) (irq : BitVec 31) : Nat → Nat
  | 0 => 0
  | n + 1 => if decide (ipl.toNat < n + 1) && irq.getLsbD n then n + 1 else highestPending ipl irq n

/-- NATIVE `eval_pending_interrupt` (R431, R442). -/
def nativePending (ipl : BitVec 5) (irq : BitVec 31) : Nat := highestPending ipl irq 31

/-- The interrupt latch (R41, R442). -/
def NativeState.latchInterrupt (level : Nat) (n : NativeState) : NativeState := { n with intId := BitVec.ofNat 5 level }

/-- The trap latch (R41, R442). -/
def NativeState.latchTrap (summ : BitVec 7) (mask : Word) (n : NativeState) : NativeState :=
  { n with excSum := summ, excMask := mask }

/-- The fault latch (R39, R442). -/
def NativeState.latchFault (k : FaultKind) (va : Word) (m : Mode) (n : NativeState) : NativeState :=
  { n with faultKind := k.code, faultVa := va, faultMode := m }

/-- What NATIVE's `enter_on_interrupt` leaves (R434, R442). -/
def nativeInterrupt (level : Nat) (resume : Word) (s : State) : State :=
  { s with ps := s.ps.latchInterrupt level }.enterFirmware 0x0100 resume

/-- What NATIVE's `enter_on_trap` leaves (R442). -/
def nativeTrap (summ : BitVec 7) (mask : Word) (resume : Word) (s : State) : State :=
  { s with ps := s.ps.latchTrap summ mask }.enterFirmware 0x0500 resume

/-- What NATIVE's `enter_on_exception` leaves (R442): the fault context latched, the kind's entry. -/
def nativeException (k : FaultKind) (va : Word) (m : Mode) (resume : Word) (s : State) : State :=
  { s with ps := s.ps.latchFault k va m }.enterFirmware k.vector resume

/-- The entry offset of `CALL_PAL` with a function code `ir[7:0]` (R381, R443): 64 bytes a function. -/
def callPalOffset (code : BitVec 8) : BitVec 15 :=
  (if code.getLsbD 7 then 0x4000 else 0x2000) + ((code.extractLsb' 0 7).setWidth 15 <<< 6)

/-- What NATIVE's `execute_privileged_opcode` leaves (R381, R442): an entry that resumes after the `CALL_PAL`. -/
def nativeCall (code : BitVec 8) (s : State) : State := s.enterFirmware (callPalOffset code) s.npc

/-- A callback of NATIVE with a context to latch: the latch, then `EnterFirmware` (R442). -/
def nativeEntry {α : Type} (latched : NativeState) (offset : BitVec 15) (resume : Word) (a : α) : Callback NativeState α :=
  .update (.privateState latched) (.update (.enterFirmware offset resume) (.answer a))

/-- The NATIVE personality (R442). Its walker is never called, since both policies are FAULT. -/
def nativePersonality : Personality NativeState where
  resetPrivate := NativeState.reset
  resetPc := 0
  resetPalMode := true
  missPolicy := fun _ => .fault
  evalPendingInterrupt := fun ipl irq _ => Fin.ofNat 32 (nativePending ipl irq)
  enterOnInterrupt := fun level resume s => nativeEntry (s.ps.latchInterrupt level) 0x0100 resume .entered
  enterOnTrap := fun summ mask resume s => nativeEntry (s.ps.latchTrap summ mask) 0x0500 resume .entered
  enterOnException := fun k va m resume s => nativeEntry (s.ps.latchFault k va m) k.vector resume .entered
  executePrivilegedOpcode := fun code s => .update (.enterFirmware (callPalOffset code) s.npc) (.answer .doneAt)
  walkPageTable := fun _ _ _ _ => .answer (.pte 0)
  registers :=
    { get := fun n => n
      set := fun n _ => n
      get_set := fun _ _ => rfl
      set_get := fun _ => rfl
      set_set := fun _ _ _ => rfl }

/-- The I/O collaborator of the host's machine: a free answer to each access at each draw (R76; log entry 5). -/
def freeIo (draw : Nat) : IoAccess → IoAnswer
  | .read pa w => Config.ioAnswer draw false pa w.bytes 0
  | .write pa w v => Config.ioAnswer draw true pa w.bytes v

/-- The parameters the host's machine runs with: the standard configuration (log entry 2), NATIVE, R7's default for `P`
(log entry 10), and the two collaborators, which are free (log entries 5, 8). -/
def nativeSetup : Setup NativeState where
  toConfig := Config.standard
  personality := nativePersonality
  fp := Config.fpOperate
  io := freeIo
  valid := Config.standard_valid

end Sys2Proof.Machine
end

