-- ==== Sys2Proof/Machine/Translate.lean ====
section
/-! DEFINITION. The address translator (20_memory R100 to R109) and virtual access (00_scope R11; 20_memory R78). -/

namespace Sys2Proof.Machine

variable {π : Type}

/-- Bits 63:VA_BITS-1 are all equal: a proper sign extension of the implemented range (R102). -/
def canonicalVa (M : Setup π) (va : Word) : Bool :=
  let high := va.toNat / 2 ^ (M.vaBits - 1)
  high == 0 || high == 2 ^ (65 - M.vaBits) - 1

/-- `spe[s]` (R100, R103). -/
def State.superpage (s : State π) : Side → Bool
  | .instruction => s.ispe
  | .data => s.dspe

/-- The superpage window `va[VA_BITS-1:VA_BITS-2] = 0b10` (R103). -/
def inSuperpage (M : Setup π) (va : Word) : Bool := field va (M.vaBits - 2) 2 == 2

/-- The physical address of the superpage: `va[VA_BITS-3:0]` (R103). -/
def superpagePa (M : Setup π) (va : Word) : PhysAddr := field va 0 (M.vaBits - 2)

/-- `Check(pte, acc, m, va)` of R108: the fault it raises, if any, in this order. -/
def checkPte (pte : BitVec 16) (acc : Access) (m : Mode) : Option FaultKind :=
  if !pteEnable pte acc m then some (.accessViolation acc)
  else if !pteValid pte then some (.translationNotValid acc)
  else if pteFaultOn pte acc then some (.faultOnReference acc)
  else none

/-- The physical address of a hit (R109). The formula is followed as it stands: where `PFN_BITS` is below 9 and below
`VPN_BITS`, a wildcarded page bit can take it to `2^PA_BITS` or above, and it is not cut: DESIGN CHOICE (log entry 21). -/
def physOf (M : Setup π) (e : TlbEntry) (va : Word) : PhysAddr :=
  ((e.pfn ||| (vpnOf M va &&& e.ghMask)) <<< Config.pageBits) ||| field va 0 Config.pageBits

/-- The state with one side's mini-TLB filled (R46, R100 step f). -/
def State.setMini (s : State π) (side : Side) (vpn : Vpn) (e : TlbEntry) : State π :=
  s.setTlb side { s.tlb side with mini := some (vpn, e) }

/-- Step (f) of R100: the protection check of the entry found, the mini-TLB and the address. -/
def useEntry (M : Setup π) (va : Word) (acc : Access) (m : Mode) (e : TlbEntry) (s : State π) : Result π PhysAddr :=
  match checkPte e.pte acc m with
  | some k => .raised k va m s
  | none => .ok (physOf M e va) (s.setMini acc.side (vpnOf M va) e)

/-- Run a walk (R440): its reads are the physical reads of R75, so outside RAM they are presented to the I/O collaborator,
with the record and the draw of any other access, and a miss ends the step (R76, R77; log entry 23). -/
def Walk.run {policy : Side → MissPolicy} (M : Setup π) : Walk policy → State π → Result π (WalkAnswer policy)
  | .answer a, s => .ok a s
  | .read pa w next, s => (memRead M pa w s).andThen fun v s' => (next v).run M s'

/-- Step (e) of R100: the miss policy (R107). A fault kind that a walker answers is raised with the mode `m` the access is
checked under, whatever the kind: for the four that R412 calls not raised by `Translate`, whose mode it says is `cm`,
DESIGN CHOICE (log entry 25). -/
def missEntry (M : Setup π) (va : Word) (acc : Access) (m : Mode) (s : State π) : Result π TlbEntry :=
  match M.personality.missPolicy acc.side with
  | .fault => .raised (.tlbMiss acc) va m s
  | .walk =>
    ((M.personality.walkPageTable (vpnOf M va) acc.side acc s).run M s).andThen fun r s' =>
      match r with
      | .fault k _ => .raised k va m s'
      | .pte p => tlbLoad M acc.side (vpnOf M va) p s'

/-- Steps (c) to (f) of R100, past the superpage. -/
def translateTable (M : Setup π) (va : Word) (acc : Access) (m : Mode) (s : State π) : Result π PhysAddr :=
  match s.lookup acc.side (vpnOf M va) with
  | (some e, s') => useEntry M va acc m e s'
  | (none, s') => (missEntry M va acc m s').andThen fun e s'' => useEntry M va acc m e s''

/-- `Translate(va, acc, m)` of R100. -/
def translate (M : Setup π) (va : Word) (acc : Access) (m : Mode) (s : State π) : Result π PhysAddr :=
  if !canonicalVa M va then .raised (.badVirtualAddress acc) va m s
  else if s.superpage acc.side && inSuperpage M va then
    if m ≠ 0 then .raised (.accessViolation acc) va m s else .ok (superpagePa M va) s
  else translateTable M va acc m s

/-- The alignment test of R78, made before translation. -/
def checkAligned (va : Word) (w : Width) (s : State π) : Result π Unit :=
  if va.toNat % w.bytes = 0 then .ok () s else raise .misalignedOperand va s

/-- `VRead(va, n, m)` of R11. -/
def vread (M : Setup π) (va : Word) (w : Width) (m : Mode) (s : State π) : Result π Word :=
  (translate M va .read m s).andThen fun pa s' => memRead M pa w s'

/-- `VWrite(va, n, v, m)` of R11. -/
def vwrite (M : Setup π) (va : Word) (w : Width) (v : Word) (m : Mode) (s : State π) : Result π Unit :=
  (translate M va .write m s).andThen fun pa s' => memWrite M pa w v s'

/-- An aligned virtual read at the current mode: R170 steps 1 to 3. -/
def alignedRead (M : Setup π) (va : Word) (w : Width) (s : State π) : Result π Word :=
  (checkAligned va w s).andThen fun _ s' => vread M va w s'.cm s'

/-- An aligned virtual write at the current mode: R170 steps 1 to 3. -/
def alignedWrite (M : Setup π) (va : Word) (w : Width) (v : Word) (s : State π) : Result π Unit :=
  (checkAligned va w s).andThen fun _ s' => vwrite M va w v s'.cm s'

end Sys2Proof.Machine
end

