-- ==== Sys2Proof/Machine/Callback.lean ====
section
/-! DEFINITION. The run of a personality's callback (60_exceptions R440, R441) and the dispatcher under any personality (R414,
R416, R426, R446; 30_encoding R130 phases 5, 6). -/

namespace Sys2Proof.Machine

variable {π : Type}

/-- One change a callback makes. `PC` and `exc_addr` are written as every write of them is (R23, R34), an ASN is cut to its
width. -/
def CallbackUpdate.apply (M : Setup π) (u : CallbackUpdate π) (s : State π) : State π :=
  match u with
  | .pc v => s.setPc v
  | .cm m => { s with cm := m }
  | .ipl l => { s with ipl := l }
  | .palMode b => { s with palMode := b }
  | .excAddr v => { s with excAddr := packExcAddr v (v.getLsbD 0) }
  | .writeInt r v => s.writeInt r v
  | .exchange => s.exchange
  | .lockFlag b => { s with lockFlag := b }
  | .setAsn side a => Sys2Proof.Machine.setAsn side (field a 0 M.asnBits) s
  | .invalidateSingle side va => Sys2Proof.Machine.invalidateSingle M side va s
  | .invalidateAll side g => Sys2Proof.Machine.invalidateAll side g s
  | .privateState p => { s with ps := p }
  | .enterFirmware offset resume => s.enterFirmware offset resume

/-- One interface call, the core's own operation (R11, R75, R110). A page number is cut to its width. -/
def CallbackCall.perform (M : Setup π) (c : CallbackCall) (s : State π) : Result π Word :=
  match c with
  | .memRead pa w => Sys2Proof.Machine.memRead M pa w s
  | .memWrite pa w v => (Sys2Proof.Machine.memWrite M pa w v s).andThen fun _ s' => .ok 0 s'
  | .vread va w m => Sys2Proof.Machine.vread M va w m s
  | .vwrite va w v m => (Sys2Proof.Machine.vwrite M va w v m s).andThen fun _ s' => .ok 0 s'
  | .tlbLoad side vpn p => (Sys2Proof.Machine.tlbLoad M side (field vpn 0 M.vpnBits) p s).andThen fun _ s' => .ok 0 s'

/-- How a callback's run ends: with its answer and the state it leaves, or with a stop of the step inside one of its own
calls (R77, R114, R130). -/
inductive Run (π α : Type) where
  | answered (a : α) (s : State π)
  | stopped (f : Fault)
  deriving DecidableEq, Repr

/-- Hand the answer of a call to the callback, a fault it met too (R441). -/
def Result.resume {β : Type} (r : Result π Word) (f : CallAnswer → State π → Run π β) : Run π β :=
  match r with
  | .ok v s => f (.value v) s
  | .raised k va m s => f (.fault k va m) s
  | .stopped c => .stopped c

/-- Run a callback on the state it is called in. -/
def Callback.run {α : Type} (M : Setup π) : Callback π α → State π → Run π α
  | .answer a, s => .answered a s
  | .inspect next, s => (next s).run M s
  | .update u next, s => next.run M (u.apply M s)
  | .call c next, s => (c.perform M s).resume fun a s' => (next a).run M s'

/-- The step's answer to an interrupt or trap callback (R416). -/
def enteredOutcome : Run π EntryAnswer → Host.Outcome (State π) Fault Refusal
  | .answered .entered s => .next s
  | .answered (.stop code) _ => .fault (.stopPersonality code)
  | .stopped f => .fault f

/-- The step's answer to an exception callback (R414, R416, R446). -/
def exceptionOutcome : Run π ExceptionAnswer → Host.Outcome (State π) Fault Refusal
  | .answered .entered s => .next s
  | .answered .unexpected _ => .fault .stopConfig
  | .answered (.stop code) _ => .fault (.stopPersonality code)
  | .stopped f => .fault f

/-- Phase 1's call of `enter_on_interrupt`, resuming at the instruction not fetched (R422, R431). -/
def takeInterrupt (M : Setup π) (level : Fin 32) (s : State π) : Host.Outcome (State π) Fault Refusal :=
  enteredOutcome ((M.personality.enterOnInterrupt level s.pc s).run M s)

/-- `Dispatch(K, va, m)` of R414: the personality's exception entry, resuming at the faulting instruction's own PC. -/
def dispatchFault (M : Setup π) (k : FaultKind) (va : Word) (m : Mode) (s : State π) :
    Host.Outcome (State π) Fault Refusal :=
  exceptionOutcome ((M.personality.enterOnException k va m s.pc s).run M s)

/-- The call of `enter_on_trap` by `DeliverTraps()`, with the trap state read and cleared (R426). -/
def dispatchTrap (M : Setup π) (s : State π) : Host.Outcome (State π) Fault Refusal :=
  let cleared := { s with trapSumm := 0, trapMask := 0 }
  enteredOutcome ((M.personality.enterOnTrap s.trapSumm s.trapMask s.pc cleared).run M cleared)

/-- Phase 6 of R130: `DeliverTraps()` of R426 when a trap cause is pending, after the instruction's own writes. -/
def deliverTraps (M : Setup π) (s : State π) : Host.Outcome (State π) Fault Refusal :=
  if s.trapSumm = 0 then .next s else dispatchTrap M s

/-- Phases 5 and 6 of R130, how every instruction ends: a raised fault is dispatched, else pending traps are delivered. -/
def finish (M : Setup π) (r : Result π Unit) : Host.Outcome (State π) Fault Refusal :=
  match r with
  | .ok _ s => deliverTraps M s
  | .raised k va m s => dispatchFault M k va m s
  | .stopped c => .fault c

/-- An instruction that raises nothing ends in a state. -/
def complete (M : Setup π) (s : State π) : Host.Outcome (State π) Fault Refusal := finish M (.ok () s)

end Sys2Proof.Machine
end

