-- ==== Sys2Proof/Machine/Flags.lean ====
section
/-! DEFINITION. The core has no condition codes (10_state R25): its only computed flags are the trap causes of R40 and
the tests of the compares, conditional moves and branches. This file has the overflow conditions (41_integer_arith R201,
R229, R230) and those tests (42_logical_cmov R247; 44_control R302, R313 to R318). -/

namespace Sys2Proof.Machine

variable {π : Type}

/-- IOV, bit 6 of `trap_summ` (R40). -/
def trapIov : BitVec 7 := 0x40

/-- Overflow of `r = a + b` from the sign bits at bit `i` (R201). -/
def addOverflow (i : Nat) (a b r : Word) : Bool := (~~~(a ^^^ b) &&& (a ^^^ r)).getLsbD i

/-- Overflow of `r = a - b` from the sign bits at bit `i` (R201). -/
def subOverflow (i : Nat) (a b r : Word) : Bool := ((a ^^^ b) &&& (a ^^^ r)).getLsbD i

/-- An exact integer lies outside the signed range of a width (R229, R230). -/
def outsideSigned (n : Nat) (p : Int) : Bool := decide (p < -(2 ^ (n - 1) : Int)) || decide ((2 ^ (n - 1) : Int) ≤ p)

/-- The exact signed product of the low longs (R229). -/
def longProduct (a b : Word) : Int := (a.setWidth 32).toInt * (b.setWidth 32).toInt

/-- The exact signed product of two quads (R230). -/
def quadProduct (a b : Word) : Int := a.toInt * b.toInt

/-- `trap(IOV, Rc)` when the condition holds (R202). -/
def State.trapIovIf (s : State π) (c : Bool) (rc : Reg) : State π :=
  if c then s.trap trapIov (rc.setWidth 6) else s

/-- The eight tests of a value as a two's-complement number (R247 to R255, R302 to R312). -/
inductive IntTest where
  | lowSet
  | lowClear
  | eq
  | ne
  | lt
  | ge
  | le
  | gt
  deriving DecidableEq, Repr

/-- Whether a test holds of a value. -/
def IntTest.holds : IntTest → Word → Bool
  | .lowSet, v => v.getLsbD 0
  | .lowClear, v => !v.getLsbD 0
  | .eq, v => v == 0
  | .ne, v => v != 0
  | .lt, v => v.getLsbD 63
  | .ge, v => !v.getLsbD 63
  | .le, v => v.getLsbD 63 || v == 0
  | .gt, v => !v.getLsbD 63 && v != 0

/-- The magnitude bits `62:0` of a floating register are all zero: a zero of either sign (44_control section 4). -/
def fpZero (v : Word) : Bool := v.extractLsb' 0 63 == 0

/-- The sign bit of a floating register. -/
def fpNegative (v : Word) : Bool := v.getLsbD 63

/-- The six tests of a floating register's raw bits (R313 to R318). -/
inductive FpTest where
  | eq
  | lt
  | le
  | ne
  | ge
  | gt
  deriving DecidableEq, Repr

/-- Whether a floating test holds of a value. -/
def FpTest.holds : FpTest → Word → Bool
  | .eq, v => fpZero v
  | .lt, v => fpNegative v && !fpZero v
  | .le, v => fpNegative v || fpZero v
  | .ne, v => !fpZero v
  | .ge, v => !fpNegative v || fpZero v
  | .gt, v => !fpNegative v && !fpZero v

end Sys2Proof.Machine
end

