-- ==== Sys2Proof/Machine/Operands.lean ====
section
/-! DEFINITION. Operand selection, effective addresses and transfer targets (30_encoding R140, R141; 40_memory_format
R170; 44_control R300, R319; 47_firmware_opcodes R382), and the shapes the instruction families share. -/

namespace Sys2Proof.Machine

variable {π : Type}

/-- `Rbv` of R141: a register, or the literal zero-extended. -/
def operandValue (s : State π) : Operand → Word
  | .reg rb => s.readInt rb
  | .lit v => v.setWidth 64

/-- `ea = x[Rb] + sext_16(disp16)` (R170). -/
def effAddr (s : State π) (rb : Reg) (disp : BitVec 16) : Word := s.readInt rb + disp.signExtend 64

/-- The address of the unaligned-quad forms: bits 2:0 cleared (R79, R176, R183). -/
def quadBase (ea : Word) : Word := ea &&& ~~~7#64

/-- `ea = x[Rb] + sext_10(disp10)` (R382). -/
def hwAddr (s : State π) (rb : Reg) (disp : BitVec 10) : Word := s.readInt rb + disp.signExtend 64

/-- `npc + 4 * sext_21(disp21)` (R140, R300). -/
def branchTarget (s : State π) (disp : BitVec 21) : Word := s.npc + (disp.signExtend 64 <<< 2)

/-! ### Shapes of meanings -/

/-- An operate instruction that writes a value of its two sources to `Rc` (R141). -/
def operate (M : Setup π) (f : Word → Word → Word) (ra : Reg) (b : Operand) (rc : Reg) (s : State π) :
    Host.Outcome (State π) Fault Refusal :=
  complete M (s.writeInt rc (f (s.readInt ra) (operandValue s b))).advance

/-- An operate instruction with an overflow trap: the wrapped result is written, then the trap recorded (R202). -/
def operateTrap (M : Setup π) (f : Word → Word → Word) (overflow : Word → Word → Word → Bool) (ra : Reg)
    (b : Operand) (rc : Reg)
    (s : State π) : Host.Outcome (State π) Fault Refusal :=
  let x := s.readInt ra
  let y := operandValue s b
  let r := f x y
  complete M ((s.writeInt rc r).trapIovIf (overflow x y r) rc).advance

/-- A conditional move: `Rc` is left unchanged when the test of `Rav` fails (R247). -/
def conditionalMove (M : Setup π) (t : IntTest) (ra : Reg) (b : Operand) (rc : Reg) (s : State π) :
    Host.Outcome (State π) Fault Refusal :=
  complete M (if t.holds (s.readInt ra) then s.writeInt rc (operandValue s b) else s).advance

/-- A load into an integer register (R170): alignment, translation, access, register write. -/
def loadInt (M : Setup π) (w : Width) (extend : Word → Word) (ra : Reg) (ea : Word) (s : State π) : Result π Unit :=
  (alignedRead M ea w s).andThen fun v s' => .ok () (s'.writeInt ra (extend v)).advance

/-- A load that also sets `lock_flag` after its read (R90). -/
def loadLocked (M : Setup π) (w : Width) (extend : Word → Word) (ra : Reg) (ea : Word) (s : State π) : Result π Unit :=
  (alignedRead M ea w s).andThen fun v s' =>
    .ok () { s'.writeInt ra (extend v) with lockFlag := true }.advance

/-- A store of an integer register's low bytes (R170). -/
def storeInt (M : Setup π) (w : Width) (ra : Reg) (ea : Word) (s : State π) : Result π Unit :=
  (alignedWrite M ea w (s.readInt ra) s).andThen fun _ s' => .ok () s'.advance

/-- The end of a store-conditional: `x[Ra] <- zext(success); lock_flag <- 0` (R91). -/
def State.concludeStore (s : State π) (ra : Reg) (success : Bool) : State π :=
  { s.writeInt ra (boolWord success) with lockFlag := false }.advance

/-- A store-conditional (R91, R185): with `lock_flag` clear nothing is checked, translated or written. -/
def storeConditional (M : Setup π) (w : Width) (ra : Reg) (ea : Word) (s : State π) : Result π Unit :=
  if s.lockFlag then
    (alignedWrite M ea w (s.readInt ra) s).andThen fun _ s' => .ok () (s'.concludeStore ra true)
  else .ok () (s.concludeStore ra false)

/-- A taken transfer: push the transferring instruction's address, then go to the target (R301, R302). -/
def State.transfer (s : State π) (target : Word) : State π := (s.pushPc s.pc).setPc target

/-- An integer conditional branch (R302). -/
def branchIf (M : Setup π) (t : IntTest) (ra : Reg) (disp : BitVec 21) (s : State π) :
    Host.Outcome (State π) Fault Refusal :=
  complete M (if t.holds (s.readInt ra) then s.transfer (branchTarget s disp) else s.advance)

/-- A floating conditional branch: first the enable, then the test of the raw bits (44_control section 4, R354). -/
def fpBranchIf (M : Setup π) (t : FpTest) (fa : Reg) (disp : BitVec 21) (s : State π) :
    Host.Outcome (State π) Fault Refusal :=
  finish M ((requireFp s).andThen fun _ s' =>
    .ok () (if t.holds (s'.readFp fa) then s'.transfer (branchTarget s' disp) else s'.advance))

/-- An unconditional branch with link (R303). -/
def branchLink (M : Setup π) (ra : Reg) (disp : BitVec 21) (s : State π) : Host.Outcome (State π) Fault Refusal :=
  complete M (((s.pushPc s.pc).writeInt ra s.npc).setPc (branchTarget s disp))

/-- The jump rule (R319): the target is read before the link is written. -/
def jumpLink (M : Setup π) (ra rb : Reg) (s : State π) : Host.Outcome (State π) Fault Refusal :=
  complete M (((s.pushPc s.pc).writeInt ra s.npc).setPc (s.readInt rb))

end Sys2Proof.Machine
end

