-- ==== Sys2Proof/Machine/Control.lean ====
section
/-! DEFINITION. Branches and jumps (44_control R300 to R324). -/

namespace Sys2Proof.Machine

variable {π : Type}

/-- `BR` (R303): `push(pc); x[Ra] <- npc; pc <- npc + 4*sext_21(disp21)`. -/
def execBr (ra : Reg) (disp : BitVec 21) (s : State π)
    (M : Setup π := by exact Sys2Proof.Machine.nativeSetup) : Host.Outcome (State π) Fault Refusal :=
  branchLink M ra disp s

/-- `BSR` (R304): as `BR`. -/
def execBsr (ra : Reg) (disp : BitVec 21) (s : State π)
    (M : Setup π := by exact Sys2Proof.Machine.nativeSetup) : Host.Outcome (State π) Fault Refusal :=
  branchLink M ra disp s

/-- `BLBC` (R305): branch when bit 0 of `x[Ra]` is clear. -/
def execBlbc (ra : Reg) (disp : BitVec 21) (s : State π)
    (M : Setup π := by exact Sys2Proof.Machine.nativeSetup) : Host.Outcome (State π) Fault Refusal :=
  branchIf M .lowClear ra disp s

/-- `BEQ` (R306): branch when `x[Ra]` is zero. -/
def execBeq (ra : Reg) (disp : BitVec 21) (s : State π)
    (M : Setup π := by exact Sys2Proof.Machine.nativeSetup) : Host.Outcome (State π) Fault Refusal :=
  branchIf M .eq ra disp s

/-- `BLT` (R307): branch when `x[Ra]` is negative. -/
def execBlt (ra : Reg) (disp : BitVec 21) (s : State π)
    (M : Setup π := by exact Sys2Proof.Machine.nativeSetup) : Host.Outcome (State π) Fault Refusal :=
  branchIf M .lt ra disp s

/-- `BLE` (R308): branch when `x[Ra]` is negative or zero. -/
def execBle (ra : Reg) (disp : BitVec 21) (s : State π)
    (M : Setup π := by exact Sys2Proof.Machine.nativeSetup) : Host.Outcome (State π) Fault Refusal :=
  branchIf M .le ra disp s

/-- `BLBS` (R309): branch when bit 0 of `x[Ra]` is set. -/
def execBlbs (ra : Reg) (disp : BitVec 21) (s : State π)
    (M : Setup π := by exact Sys2Proof.Machine.nativeSetup) : Host.Outcome (State π) Fault Refusal :=
  branchIf M .lowSet ra disp s

/-- `BNE` (R310): branch when `x[Ra]` is not zero. -/
def execBne (ra : Reg) (disp : BitVec 21) (s : State π)
    (M : Setup π := by exact Sys2Proof.Machine.nativeSetup) : Host.Outcome (State π) Fault Refusal :=
  branchIf M .ne ra disp s

/-- `BGE` (R311): branch when `x[Ra]` is not negative. -/
def execBge (ra : Reg) (disp : BitVec 21) (s : State π)
    (M : Setup π := by exact Sys2Proof.Machine.nativeSetup) : Host.Outcome (State π) Fault Refusal :=
  branchIf M .ge ra disp s

/-- `BGT` (R312): branch when `x[Ra]` is positive. -/
def execBgt (ra : Reg) (disp : BitVec 21) (s : State π)
    (M : Setup π := by exact Sys2Proof.Machine.nativeSetup) : Host.Outcome (State π) Fault Refusal :=
  branchIf M .gt ra disp s

/-- `FBEQ` (R313): branch when `f[Ra]` is a zero of either sign. -/
def execFbeq (fa : Reg) (disp : BitVec 21) (s : State π)
    (M : Setup π := by exact Sys2Proof.Machine.nativeSetup) : Host.Outcome (State π) Fault Refusal :=
  fpBranchIf M .eq fa disp s

/-- `FBLT` (R314): branch when `f[Ra]` is negative and no zero. -/
def execFblt (fa : Reg) (disp : BitVec 21) (s : State π)
    (M : Setup π := by exact Sys2Proof.Machine.nativeSetup) : Host.Outcome (State π) Fault Refusal :=
  fpBranchIf M .lt fa disp s

/-- `FBLE` (R315): branch when `f[Ra]` is negative or a zero. -/
def execFble (fa : Reg) (disp : BitVec 21) (s : State π)
    (M : Setup π := by exact Sys2Proof.Machine.nativeSetup) : Host.Outcome (State π) Fault Refusal :=
  fpBranchIf M .le fa disp s

/-- `FBNE` (R316): branch when `f[Ra]` is no zero. -/
def execFbne (fa : Reg) (disp : BitVec 21) (s : State π)
    (M : Setup π := by exact Sys2Proof.Machine.nativeSetup) : Host.Outcome (State π) Fault Refusal :=
  fpBranchIf M .ne fa disp s

/-- `FBGE` (R317): branch when `f[Ra]` is not negative, or a zero. -/
def execFbge (fa : Reg) (disp : BitVec 21) (s : State π)
    (M : Setup π := by exact Sys2Proof.Machine.nativeSetup) : Host.Outcome (State π) Fault Refusal :=
  fpBranchIf M .ge fa disp s

/-- `FBGT` (R318): branch when `f[Ra]` is neither negative nor a zero. -/
def execFbgt (fa : Reg) (disp : BitVec 21) (s : State π)
    (M : Setup π := by exact Sys2Proof.Machine.nativeSetup) : Host.Outcome (State π) Fault Refusal :=
  fpBranchIf M .gt fa disp s

/-- `JMP` (R320): the jump rule R319. -/
def execJmp (ra rb : Reg) (s : State π)
    (M : Setup π := by exact Sys2Proof.Machine.nativeSetup) : Host.Outcome (State π) Fault Refusal :=
  jumpLink M ra rb s

/-- `JSR` (R321): the jump rule R319. -/
def execJsr (ra rb : Reg) (s : State π)
    (M : Setup π := by exact Sys2Proof.Machine.nativeSetup) : Host.Outcome (State π) Fault Refusal :=
  jumpLink M ra rb s

/-- `RET` (R322): the jump rule R319. -/
def execRet (ra rb : Reg) (s : State π)
    (M : Setup π := by exact Sys2Proof.Machine.nativeSetup) : Host.Outcome (State π) Fault Refusal :=
  jumpLink M ra rb s

/-- `JSR_COROUTINE` (R323): the jump rule R319. -/
def execJsrCoroutine (ra rb : Reg) (s : State π)
    (M : Setup π := by exact Sys2Proof.Machine.nativeSetup) : Host.Outcome (State π) Fault Refusal :=
  jumpLink M ra rb s

end Sys2Proof.Machine
end

