-- ==== Sys2Proof/Machine/Ipr.lean ====
section
/-! DEFINITION. The internal-register map (10_state R49, R50), which the core executes under every personality
(47_firmware_opcodes R391): the registers that are private state are reached through `Personality.registers`. -/

namespace Sys2Proof.Machine

variable {π : Type}

/-- The internal registers of R49. -/
inductive Ipr where
  | excAddr
  | palBase
  | fwCtl
  | cm
  | altMode
  | ipl
  | intSumm
  | intId
  | excSum
  | excMask
  | faultKind
  | faultVa
  | lockFlag
  | shdwAct
  | halt
  | itbTag
  | itbPte
  | itbAsn
  | itbIs
  | itbIap
  | itbIa
  | dtbTag
  | dtbPte
  | dtbAsn
  | dtbIs
  | dtbIap
  | dtbIa
  | tbIs
  | tbIap
  | tbIa
  | palTemp (k : Fin 24)
  | pcq (k : Nat)
  deriving DecidableEq, Repr

/-- The register an index names; `none` for an index not in the table (R49). -/
def Ipr.ofIndex (M : Setup π) (index : BitVec 16) : Option Ipr :=
  match index.toNat with
  | 0x0000 => some .excAddr
  | 0x0001 => some .palBase
  | 0x0002 => some .fwCtl
  | 0x0003 => some .cm
  | 0x0004 => some .altMode
  | 0x0005 => some .ipl
  | 0x0006 => some .intSumm
  | 0x0007 => some .intId
  | 0x0008 => some .excSum
  | 0x0009 => some .excMask
  | 0x000A => some .faultKind
  | 0x000B => some .faultVa
  | 0x000C => some .lockFlag
  | 0x000E => some .shdwAct
  | 0x000F => some .halt
  | 0x0010 => some .itbTag
  | 0x0011 => some .itbPte
  | 0x0012 => some .itbAsn
  | 0x0013 => some .itbIs
  | 0x0014 => some .itbIap
  | 0x0015 => some .itbIa
  | 0x0020 => some .dtbTag
  | 0x0021 => some .dtbPte
  | 0x0022 => some .dtbAsn
  | 0x0023 => some .dtbIs
  | 0x0024 => some .dtbIap
  | 0x0025 => some .dtbIa
  | 0x0030 => some .tbIs
  | 0x0031 => some .tbIap
  | 0x0032 => some .tbIa
  | n =>
    if h : 0x0040 ≤ n ∧ n < 0x0058 then some (.palTemp ⟨n - 0x0040, by omega⟩)
    else if 0x0100 ≤ n ∧ n < 0x0100 + M.pcqSize then some (.pcq (n - 0x0100))
    else none

/-- Four control bits read as `FW_CTL` (R49). -/
def State.fwCtl (s : State π) : Word :=
  (BitVec.ofBool s.dspe ++ BitVec.ofBool s.ispe ++ BitVec.ofBool s.fpen ++ BitVec.ofBool s.sde).setWidth 64

/-- The column "Read returns" of R49; `none` for a write-only register. Reads have no side effects (R50). -/
def Ipr.read (M : Setup π) (r : Ipr) (s : State π) : Option Word :=
  let n := s.privateRegisters M
  match r with
  | .excAddr => some s.excAddr
  | .palBase => some s.palBase
  | .fwCtl => some s.fwCtl
  | .cm => some (s.cm.setWidth 64)
  | .altMode => some (s.altMode.setWidth 64)
  | .ipl => some (s.ipl.setWidth 64)
  | .intSumm => some ((s.irq ++ 0#1).setWidth 64)
  | .intId => some (n.intId.setWidth 64)
  | .excSum => some (n.excSum.setWidth 64)
  | .excMask => some n.excMask
  | .faultKind => some ((n.faultMode ++ 0#3 ++ n.faultKind).setWidth 64)
  | .faultVa => some n.faultVa
  | .lockFlag => some (boolWord s.lockFlag)
  | .shdwAct => some (boolWord s.shdwActive)
  | .itbAsn => some s.itlb.asn
  | .dtbAsn => some s.dtlb.asn
  | .palTemp k => some (n.palTemp[k.val]'k.isLt)
  | .pcq k => some (s.pcqEntry k)
  | .halt => none
  | .itbTag => none
  | .itbPte => none
  | .itbIs => none
  | .itbIap => none
  | .itbIa => none
  | .dtbTag => none
  | .dtbPte => none
  | .dtbIs => none
  | .dtbIap => none
  | .dtbIa => none
  | .tbIs => none
  | .tbIap => none
  | .tbIa => none

/-- The column "Write does" of R49; `none` for a read-only register. -/
def Ipr.write (M : Setup π) (r : Ipr) (v : Word) (s : State π) : Option (Result π Unit) :=
  let n := s.privateRegisters M
  match r with
  | .excAddr => some (.ok () { s with excAddr := alignPc v ||| boolWord (v.getLsbD 0) })
  | .palBase => some (.ok () { s with palBase := field v 15 (M.paBits - 15) <<< 15 })
  | .fwCtl => some (.ok ()
      { s with sde := v.getLsbD 0, fpen := v.getLsbD 1, ispe := v.getLsbD 2, dspe := v.getLsbD 3 })
  | .cm => some (.ok () { s with cm := v.extractLsb' 0 2 })
  | .altMode => some (.ok () { s with altMode := v.extractLsb' 0 2 })
  | .ipl => some (.ok () { s with ipl := v.extractLsb' 0 5 })
  | .excSum => some (.ok () (s.setPrivate M { n with excSum := 0, excMask := 0 }))
  | .lockFlag => some (.ok () { s with lockFlag := v.getLsbD 0 })
  | .halt => some (.ok () (s.setPrivate M { n with haltReq := true }))
  | .itbTag => some (.ok () { s with itbTag := vpnOf M v })
  | .itbPte => some ((tlbLoad M .instruction s.itbTag v s).andThen fun _ s' => .ok () s')
  | .itbAsn => some (.ok () (setAsn .instruction (field v 0 M.asnBits) s))
  | .itbIs => some (.ok () (invalidateSingle M .instruction v s))
  | .itbIap => some (.ok () (invalidateAll .instruction false s))
  | .itbIa => some (.ok () (invalidateAll .instruction true s))
  | .dtbTag => some (.ok () { s with dtbTag := vpnOf M v })
  | .dtbPte => some ((tlbLoad M .data s.dtbTag v s).andThen fun _ s' => .ok () s')
  | .dtbAsn => some (.ok () (setAsn .data (field v 0 M.asnBits) s))
  | .dtbIs => some (.ok () (invalidateSingle M .data v s))
  | .dtbIap => some (.ok () (invalidateAll .data false s))
  | .dtbIa => some (.ok () (invalidateAll .data true s))
  | .tbIs => some (.ok () (invalidateSingle M .data v (invalidateSingle M .instruction v s)))
  | .tbIap => some (.ok () (invalidateAll .data false (invalidateAll .instruction false s)))
  | .tbIa => some (.ok () (invalidateAll .data true (invalidateAll .instruction true s)))
  | .palTemp k => some (.ok () (s.setPrivate M { n with palTemp := n.palTemp.set k.val v k.isLt }))
  | .intSumm => none
  | .intId => none
  | .excMask => none
  | .faultKind => none
  | .faultVa => none
  | .shdwAct => none
  | .pcq _ => none

/-- `IprRead(index)`; `none` where it raises reserved-operand (R50, R385). -/
def iprRead (M : Setup π) (index : BitVec 16) (s : State π) : Option Word :=
  match Ipr.ofIndex M index with
  | some r => r.read M s
  | none => none

/-- `IprWrite(index, v)`: reserved-operand for an index not in the table and for a read-only register, before anything
changes (R50, R386). -/
def iprWrite (M : Setup π) (index : BitVec 16) (v : Word) (s : State π) : Result π Unit :=
  match Ipr.ofIndex M index with
  | some r =>
    match r.write M v s with
    | some res => res
    | none => raise .reservedOperand 0 s
  | none => raise .reservedOperand 0 s

end Sys2Proof.Machine
end

