-- ==== Sys2Proof/Machine/Firmware.lean ====
section
/-! DEFINITION. `CALL_PAL`, the five hardware firmware opcodes and the reserved opcodes (47_firmware_opcodes R380 to R391). -/

namespace Sys2Proof.Machine

variable {π : Type}

/-- The engine's part of an answer of `execute_privileged_opcode`, to a `CALL_PAL` that began in `s` (R381). `Fault(K, va)`
is dispatched "as if the instruction had raised it": in the mode `cm` for every kind, which R412 says of four of them and
R440 does not say: DESIGN CHOICE; without the callback's writes (R130, R414) but with the record of its accesses (R76):
DEDUCED (log entry 24). -/
def endPrivilegedOpcode (M : Setup π) (s : State π) : Run π OpcodeAnswer → Host.Outcome (State π) Fault Refusal
  | .answered .done s' => finish M (.ok () (s'.setPc s.npc))
  | .answered .doneAt s' => finish M (.ok () s')
  | .answered .again s' => finish M (.ok () (s'.setPc s.pc))
  | .answered (.fault k va) s' => finish M (raise k va (s.withAccessRecord s'))
  | .answered (.stop code) _ => finish M (.stopped (.stopPersonality code))
  | .stopped f => finish M (.stopped f)

/-- `CALL_PAL` (R381): the must-be-zero test, the privilege test of the privileged class, then the
callback with `ir[7:0]` and the engine's part of its answer. -/
def callPal (M : Setup π) (mbz : BitVec 18) (cls : Bool) (n : BitVec 7) (s : State π) :
    Host.Outcome (State π) Fault Refusal :=
  if mbz ≠ 0 then finish M (raise .reservedInstruction 0 s)
  else if !cls && !s.privileged then finish M (raise .reservedInstruction 0 s)
  else endPrivilegedOpcode M s ((M.personality.executePrivilegedOpcode (BitVec.ofBool cls ++ n) s).run M s)

/-- The must-be-zero bits of the hardware memory format (R382). -/
def requireMbz (q : HwQualifiers) (s : State π) : Result π Unit :=
  if q.mbzClear then .ok () s else raise .reservedInstruction 0 s

/-- The width a QUAD qualifier selects (R382). -/
def hwWidth (q : HwQualifiers) : Width := if q.quad then .quad else .long

/-- Alignment and address of `HW_LD` and `HW_ST` (R382): physical under PHYS, else translated at `cm` or, under ALT, at
`alt_mode`. -/
def hwPhys (M : Setup π) (q : HwQualifiers) (ea : Word) (acc : Access) (s : State π) : Result π PhysAddr :=
  (checkAligned ea (hwWidth q) s).andThen fun _ s1 =>
    if q.phys then .ok (field ea 0 M.paBits) s1
    else translate M ea acc (if q.alt then s1.altMode else s1.cm) s1

/-- `HW_LD` past its legality tests (R383). -/
def hwLoad (M : Setup π) (ra rb : Reg) (q : HwQualifiers) (disp : BitVec 10) (s : State π) : Result π Unit :=
  (hwPhys M q (hwAddr s rb disp) .read s).andThen fun pa s1 =>
    (memRead M pa (hwWidth q) s1).andThen fun v s2 =>
      let s3 := s2.writeInt ra (if q.quad then v else sext 32 v)
      .ok () { s3 with lockFlag := s3.lockFlag || q.lock }.advance

/-- `HW_ST` past its legality tests (R384): under LOCK a store-conditional. -/
def hwStore (M : Setup π) (ra rb : Reg) (q : HwQualifiers) (disp : BitVec 10) (s : State π) : Result π Unit :=
  if q.lock && !s.lockFlag then .ok () (s.concludeStore ra false)
  else
    (hwPhys M q (hwAddr s rb disp) .write s).andThen fun pa s1 =>
      (memWrite M pa (hwWidth q) (s.readInt ra) s1).andThen fun _ s2 =>
        .ok () (if q.lock then s2.concludeStore ra true else s2.advance)

/-- `CALL_PAL` (R381): enter firmware function N. -/
def execCallPal (mbz : BitVec 18) (cls : Bool) (n : BitVec 7) (s : State π)
    (M : Setup π := by exact Sys2Proof.Machine.nativeSetup) : Host.Outcome (State π) Fault Refusal :=
  callPal M mbz cls n s

/-- `HW_MFPR` (R385): `x[Ra] <- IprRead(index)`; an unknown or write-only index raises reserved-operand. -/
def execHwMfpr (ra : Reg) (index : BitVec 16) (s : State π)
    (M : Setup π := by exact Sys2Proof.Machine.nativeSetup) : Host.Outcome (State π) Fault Refusal :=
  finish M ((requirePrivileged s).andThen fun _ s1 =>
    match iprRead M index s1 with
    | some v => .ok () (s1.writeInt ra v).advance
    | none => raise .reservedOperand 0 s1)

/-- `HW_LD` (R383): hardware load. -/
def execHwLd (ra rb : Reg) (q : HwQualifiers) (disp : BitVec 10) (s : State π)
    (M : Setup π := by exact Sys2Proof.Machine.nativeSetup) : Host.Outcome (State π) Fault Refusal :=
  finish M ((requirePrivileged s).andThen fun _ s1 =>
    (requireMbz q s1).andThen fun _ s2 => hwLoad M ra rb q disp s2)

/-- `HW_MTPR` (R386): `IprWrite(index, x[Rb])`; an unknown or read-only index raises reserved-operand. -/
def execHwMtpr (rb : Reg) (index : BitVec 16) (s : State π)
    (M : Setup π := by exact Sys2Proof.Machine.nativeSetup) : Host.Outcome (State π) Fault Refusal :=
  finish M ((requirePrivileged s).andThen fun _ s1 =>
    (iprWrite M index (s1.readInt rb) s1).andThen fun _ s2 => .ok () s2.advance)

/-- `HW_REI` (R389): return from firmware, with the shadow registers when RS is set. -/
def execHwRei (rs : Bool) (mbz : BitVec 15) (s : State π)
    (M : Setup π := by exact Sys2Proof.Machine.nativeSetup) : Host.Outcome (State π) Fault Refusal :=
  finish M ((requirePrivileged s).andThen fun _ s1 =>
    if mbz ≠ 0 then raise .reservedInstruction 0 s1 else .ok () (s1.returnFromFirmware rs))

/-- `HW_ST` (R384): hardware store. -/
def execHwSt (ra rb : Reg) (q : HwQualifiers) (disp : BitVec 10) (s : State π)
    (M : Setup π := by exact Sys2Proof.Machine.nativeSetup) : Host.Outcome (State π) Fault Refusal :=
  finish M ((requirePrivileged s).andThen fun _ s1 =>
    (requireMbz q s1).andThen fun _ s2 => hwStore M ra rb q disp s2)

/-- `OPC01` (R390): the reserved opcode 0x01 raises reserved-instruction in every mode. -/
def execOpc01 (s : State π)
    (M : Setup π := by exact Sys2Proof.Machine.nativeSetup) : Host.Outcome (State π) Fault Refusal :=
  finish M (raise .reservedInstruction 0 s)

/-- `OPC02` (R390): the reserved opcode 0x02 raises reserved-instruction in every mode. -/
def execOpc02 (s : State π)
    (M : Setup π := by exact Sys2Proof.Machine.nativeSetup) : Host.Outcome (State π) Fault Refusal :=
  finish M (raise .reservedInstruction 0 s)

/-- `OPC03` (R390): the reserved opcode 0x03 raises reserved-instruction in every mode. -/
def execOpc03 (s : State π)
    (M : Setup π := by exact Sys2Proof.Machine.nativeSetup) : Host.Outcome (State π) Fault Refusal :=
  finish M (raise .reservedInstruction 0 s)

/-- `OPC04` (R390): the reserved opcode 0x04 raises reserved-instruction in every mode. -/
def execOpc04 (s : State π)
    (M : Setup π := by exact Sys2Proof.Machine.nativeSetup) : Host.Outcome (State π) Fault Refusal :=
  finish M (raise .reservedInstruction 0 s)

/-- `OPC05` (R390): the reserved opcode 0x05 raises reserved-instruction in every mode. -/
def execOpc05 (s : State π)
    (M : Setup π := by exact Sys2Proof.Machine.nativeSetup) : Host.Outcome (State π) Fault Refusal :=
  finish M (raise .reservedInstruction 0 s)

/-- `OPC06` (R390): the reserved opcode 0x06 raises reserved-instruction in every mode. -/
def execOpc06 (s : State π)
    (M : Setup π := by exact Sys2Proof.Machine.nativeSetup) : Host.Outcome (State π) Fault Refusal :=
  finish M (raise .reservedInstruction 0 s)

/-- `OPC07` (R390): the reserved opcode 0x07 raises reserved-instruction in every mode. -/
def execOpc07 (s : State π)
    (M : Setup π := by exact Sys2Proof.Machine.nativeSetup) : Host.Outcome (State π) Fault Refusal :=
  finish M (raise .reservedInstruction 0 s)

end Sys2Proof.Machine
end

