-- ==== Sys2Proof/Machine/Float.lean ====
section
/-! DEFINITION. The floating-point interface: operate M groups, loads and stores (46_floating_interface R350 to R367). -/

namespace Sys2Proof.Machine

variable {π : Type}

/-- `MAP_F(e)`: the 8-bit exponent of a legacy single as 11 bits (R357). -/
def mapF (e : BitVec 8) : BitVec 11 :=
  if e = 0 then 0
  else if e.getLsbD 7 then 0x400 ||| (e.extractLsb' 0 7).setWidth 11
  else 0x380 ||| (e.extractLsb' 0 7).setWidth 11

/-- `MAP_S(e)`: as `MAP_F`, with an exponent of all ones kept so (R357). -/
def mapS (e : BitVec 8) : BitVec 11 := if e = 0xFF then 0x7FF else mapF e

/-- The register form of a legacy single (R360). -/
def expandF (m : Word) : Word :=
  m.extractLsb' 15 1 ++ mapF (m.extractLsb' 7 8) ++ m.extractLsb' 0 7 ++ m.extractLsb' 16 16 ++ 0#29

/-- The four 16-bit words in reverse order: the register form of a legacy double, and its inverse (R361, R365). -/
def reverseWords (m : Word) : Word :=
  m.extractLsb' 0 16 ++ m.extractLsb' 16 16 ++ m.extractLsb' 32 16 ++ m.extractLsb' 48 16

/-- The register form of a standard single (R362). -/
def expandS (m : Word) : Word :=
  m.extractLsb' 31 1 ++ mapS (m.extractLsb' 23 8) ++ m.extractLsb' 0 23 ++ 0#29

/-- The memory form of a legacy single: bits 61:59 and 28:0 of the register are dropped (R364). -/
def packF (r : Word) : Word :=
  (r.extractLsb' 29 16 ++ r.extractLsb' 62 2 ++ r.extractLsb' 45 14).setWidth 64

/-- The memory form of a standard single (R366). -/
def packS (r : Word) : Word := (r.extractLsb' 62 2 ++ r.extractLsb' 29 30).setWidth 64

/-- A floating load (R356): the enable, then address, alignment, translation, access, register write. -/
def loadFp (M : Setup π) (w : Width) (expand : Word → Word) (fa rb : Reg) (disp : BitVec 16) (s : State π) :
    Result π Unit :=
  (requireFp s).andThen fun _ s1 =>
    (alignedRead M (effAddr s1 rb disp) w s1).andThen fun m s2 => .ok () (s2.writeFp fa (expand m)).advance

/-- A floating store (R356). -/
def storeFp (M : Setup π) (w : Width) (pack : Word → Word) (fa rb : Reg) (disp : BitVec 16) (s : State π) :
    Result π Unit :=
  (requireFp s).andThen fun _ s1 =>
    (alignedWrite M (effAddr s1 rb disp) w (pack (s1.readFp fa)) s1).andThen fun _ s2 => .ok () s2.advance

/-- What the core does with the collaborator's answer (R351). -/
def applyFp (fc : Reg) (a : FpAnswer) (s : State π) : Result π Unit :=
  match a with
  | .done write fpcr traps =>
    let s1 := match write with
      | some v => s.writeFp fc v
      | none => s
    let s2 := { s1 with fpcr := fpcr }
    let s3 := if traps = 0 then s2 else s2.trap traps (0x20 ||| fc.setWidth 6)
    .ok () s3.advance
  | .reserved => raise .reservedInstruction 0 s
  | .badOperand => raise .reservedOperand 0 s

/-- A floating operate instruction of any of the four groups (R355). -/
def fpOperate (M : Setup π) (op : BitVec 6) (fa fb fc : Reg) (fn : BitVec 11) (s : State π) :
    Host.Outcome (State π) Fault Refusal :=
  finish M ((requireFp s).andThen fun _ s' =>
    applyFp fc (M.fp op fn (s'.readFp fa) (s'.readFp fb) s'.fpcr) s')

/-- `ITFP` (R355): opcode 0x14, by the collaborator. -/
def execItfp (fa fb fc : Reg) (fn : BitVec 11) (s : State π)
    (M : Setup π := by exact Sys2Proof.Machine.nativeSetup) : Host.Outcome (State π) Fault Refusal :=
  fpOperate M 0x14 fa fb fc fn s

/-- `FLTV` (R355): opcode 0x15, the legacy family, by the collaborator. -/
def execFltv (fa fb fc : Reg) (fn : BitVec 11) (s : State π)
    (M : Setup π := by exact Sys2Proof.Machine.nativeSetup) : Host.Outcome (State π) Fault Refusal :=
  fpOperate M 0x15 fa fb fc fn s

/-- `FLTI` (R355): opcode 0x16, the standard family, by the collaborator. -/
def execFlti (fa fb fc : Reg) (fn : BitVec 11) (s : State π)
    (M : Setup π := by exact Sys2Proof.Machine.nativeSetup) : Host.Outcome (State π) Fault Refusal :=
  fpOperate M 0x16 fa fb fc fn s

/-- `FLTL` (R355): opcode 0x17, format-independent, by the collaborator. -/
def execFltl (fa fb fc : Reg) (fn : BitVec 11) (s : State π)
    (M : Setup π := by exact Sys2Proof.Machine.nativeSetup) : Host.Outcome (State π) Fault Refusal :=
  fpOperate M 0x17 fa fb fc fn s

/-- `LDF` (R360): legacy single. -/
def execLdf (fa rb : Reg) (disp : BitVec 16) (s : State π)
    (M : Setup π := by exact Sys2Proof.Machine.nativeSetup) : Host.Outcome (State π) Fault Refusal :=
  finish M (loadFp M .long expandF fa rb disp s)

/-- `LDG` (R361): legacy double. -/
def execLdg (fa rb : Reg) (disp : BitVec 16) (s : State π)
    (M : Setup π := by exact Sys2Proof.Machine.nativeSetup) : Host.Outcome (State π) Fault Refusal :=
  finish M (loadFp M .quad reverseWords fa rb disp s)

/-- `LDS` (R362): standard single. -/
def execLds (fa rb : Reg) (disp : BitVec 16) (s : State π)
    (M : Setup π := by exact Sys2Proof.Machine.nativeSetup) : Host.Outcome (State π) Fault Refusal :=
  finish M (loadFp M .long expandS fa rb disp s)

/-- `LDT` (R363): standard double. -/
def execLdt (fa rb : Reg) (disp : BitVec 16) (s : State π)
    (M : Setup π := by exact Sys2Proof.Machine.nativeSetup) : Host.Outcome (State π) Fault Refusal :=
  finish M (loadFp M .quad id fa rb disp s)

/-- `STF` (R364): legacy single. -/
def execStf (fa rb : Reg) (disp : BitVec 16) (s : State π)
    (M : Setup π := by exact Sys2Proof.Machine.nativeSetup) : Host.Outcome (State π) Fault Refusal :=
  finish M (storeFp M .long packF fa rb disp s)

/-- `STG` (R365): legacy double. -/
def execStg (fa rb : Reg) (disp : BitVec 16) (s : State π)
    (M : Setup π := by exact Sys2Proof.Machine.nativeSetup) : Host.Outcome (State π) Fault Refusal :=
  finish M (storeFp M .quad reverseWords fa rb disp s)

/-- `STS` (R366): standard single. -/
def execSts (fa rb : Reg) (disp : BitVec 16) (s : State π)
    (M : Setup π := by exact Sys2Proof.Machine.nativeSetup) : Host.Outcome (State π) Fault Refusal :=
  finish M (storeFp M .long packS fa rb disp s)

/-- `STT` (R367): standard double. -/
def execStt (fa rb : Reg) (disp : BitVec 16) (s : State π)
    (M : Setup π := by exact Sys2Proof.Machine.nativeSetup) : Host.Outcome (State π) Fault Refusal :=
  finish M (storeFp M .quad id fa rb disp s)

end Sys2Proof.Machine
end

