-- ==== Sys2Proof/Machine/IntArith.lean ====
section
/-! DEFINITION. Integer arithmetic, compares and multiplies: opcodes 0x10 and 0x13 (41_integer_arith R200 to R230). -/

namespace Sys2Proof.Machine

variable {π : Type}

/-- The scaled first operand of the S4 and S8 forms (R204, R205). -/
def scaled (k : Nat) (v : Word) : Word := v <<< k

/-- `ADDL` (R203): `x[Rc] <- sext_32(Rav + Rbv)`. -/
def execAddl (ra : Reg) (b : Operand) (rc : Reg) (s : State π)
    (M : Setup π := by exact Sys2Proof.Machine.nativeSetup) : Host.Outcome (State π) Fault Refusal :=
  operate M (fun x y => sext 32 (x + y)) ra b rc s

/-- `S4ADDL` (R204): `x[Rc] <- sext_32((Rav << 2) + Rbv)`. -/
def execS4addl (ra : Reg) (b : Operand) (rc : Reg) (s : State π)
    (M : Setup π := by exact Sys2Proof.Machine.nativeSetup) : Host.Outcome (State π) Fault Refusal :=
  operate M (fun x y => sext 32 (scaled 2 x + y)) ra b rc s

/-- `S8ADDL` (R205): `x[Rc] <- sext_32((Rav << 3) + Rbv)`. -/
def execS8addl (ra : Reg) (b : Operand) (rc : Reg) (s : State π)
    (M : Setup π := by exact Sys2Proof.Machine.nativeSetup) : Host.Outcome (State π) Fault Refusal :=
  operate M (fun x y => sext 32 (scaled 3 x + y)) ra b rc s

/-- `SUBL` (R206): `x[Rc] <- sext_32(Rav - Rbv)`. -/
def execSubl (ra : Reg) (b : Operand) (rc : Reg) (s : State π)
    (M : Setup π := by exact Sys2Proof.Machine.nativeSetup) : Host.Outcome (State π) Fault Refusal :=
  operate M (fun x y => sext 32 (x - y)) ra b rc s

/-- `S4SUBL` (R207): `x[Rc] <- sext_32((Rav << 2) - Rbv)`. -/
def execS4subl (ra : Reg) (b : Operand) (rc : Reg) (s : State π)
    (M : Setup π := by exact Sys2Proof.Machine.nativeSetup) : Host.Outcome (State π) Fault Refusal :=
  operate M (fun x y => sext 32 (scaled 2 x - y)) ra b rc s

/-- `S8SUBL` (R208): `x[Rc] <- sext_32((Rav << 3) - Rbv)`. -/
def execS8subl (ra : Reg) (b : Operand) (rc : Reg) (s : State π)
    (M : Setup π := by exact Sys2Proof.Machine.nativeSetup) : Host.Outcome (State π) Fault Refusal :=
  operate M (fun x y => sext 32 (scaled 3 x - y)) ra b rc s

/-- `ADDQ` (R209): `x[Rc] <- Rav + Rbv`. -/
def execAddq (ra : Reg) (b : Operand) (rc : Reg) (s : State π)
    (M : Setup π := by exact Sys2Proof.Machine.nativeSetup) : Host.Outcome (State π) Fault Refusal :=
  operate M (fun x y => x + y) ra b rc s

/-- `S4ADDQ` (R210): `x[Rc] <- (Rav << 2) + Rbv`. -/
def execS4addq (ra : Reg) (b : Operand) (rc : Reg) (s : State π)
    (M : Setup π := by exact Sys2Proof.Machine.nativeSetup) : Host.Outcome (State π) Fault Refusal :=
  operate M (fun x y => scaled 2 x + y) ra b rc s

/-- `S8ADDQ` (R211): `x[Rc] <- (Rav << 3) + Rbv`. -/
def execS8addq (ra : Reg) (b : Operand) (rc : Reg) (s : State π)
    (M : Setup π := by exact Sys2Proof.Machine.nativeSetup) : Host.Outcome (State π) Fault Refusal :=
  operate M (fun x y => scaled 3 x + y) ra b rc s

/-- `SUBQ` (R212): `x[Rc] <- Rav - Rbv`. -/
def execSubq (ra : Reg) (b : Operand) (rc : Reg) (s : State π)
    (M : Setup π := by exact Sys2Proof.Machine.nativeSetup) : Host.Outcome (State π) Fault Refusal :=
  operate M (fun x y => x - y) ra b rc s

/-- `S4SUBQ` (R213): `x[Rc] <- (Rav << 2) - Rbv`. -/
def execS4subq (ra : Reg) (b : Operand) (rc : Reg) (s : State π)
    (M : Setup π := by exact Sys2Proof.Machine.nativeSetup) : Host.Outcome (State π) Fault Refusal :=
  operate M (fun x y => scaled 2 x - y) ra b rc s

/-- `S8SUBQ` (R214): `x[Rc] <- (Rav << 3) - Rbv`. -/
def execS8subq (ra : Reg) (b : Operand) (rc : Reg) (s : State π)
    (M : Setup π := by exact Sys2Proof.Machine.nativeSetup) : Host.Outcome (State π) Fault Refusal :=
  operate M (fun x y => scaled 3 x - y) ra b rc s

/-- `ADDL/V` (R215): `ADDL` with the sign-bit overflow trap at bit 31. -/
def execAddlV (ra : Reg) (b : Operand) (rc : Reg) (s : State π)
    (M : Setup π := by exact Sys2Proof.Machine.nativeSetup) : Host.Outcome (State π) Fault Refusal :=
  operateTrap M (fun x y => sext 32 (x + y)) (addOverflow 31) ra b rc s

/-- `SUBL/V` (R216): `SUBL` with the sign-bit overflow trap at bit 31. -/
def execSublV (ra : Reg) (b : Operand) (rc : Reg) (s : State π)
    (M : Setup π := by exact Sys2Proof.Machine.nativeSetup) : Host.Outcome (State π) Fault Refusal :=
  operateTrap M (fun x y => sext 32 (x - y)) (subOverflow 31) ra b rc s

/-- `ADDQ/V` (R217): `ADDQ` with the sign-bit overflow trap at bit 63. -/
def execAddqV (ra : Reg) (b : Operand) (rc : Reg) (s : State π)
    (M : Setup π := by exact Sys2Proof.Machine.nativeSetup) : Host.Outcome (State π) Fault Refusal :=
  operateTrap M (fun x y => x + y) (addOverflow 63) ra b rc s

/-- `SUBQ/V` (R218): `SUBQ` with the sign-bit overflow trap at bit 63. -/
def execSubqV (ra : Reg) (b : Operand) (rc : Reg) (s : State π)
    (M : Setup π := by exact Sys2Proof.Machine.nativeSetup) : Host.Outcome (State π) Fault Refusal :=
  operateTrap M (fun x y => x - y) (subOverflow 63) ra b rc s

/-- `CMPEQ` (R220): 1 when the operands are equal. -/
def execCmpeq (ra : Reg) (b : Operand) (rc : Reg) (s : State π)
    (M : Setup π := by exact Sys2Proof.Machine.nativeSetup) : Host.Outcome (State π) Fault Refusal :=
  operate M (fun x y => boolWord (x == y)) ra b rc s

/-- `CMPLT` (R221): 1 when `Rav` is the lesser as signed quads. -/
def execCmplt (ra : Reg) (b : Operand) (rc : Reg) (s : State π)
    (M : Setup π := by exact Sys2Proof.Machine.nativeSetup) : Host.Outcome (State π) Fault Refusal :=
  operate M (fun x y => boolWord (x.slt y)) ra b rc s

/-- `CMPLE` (R222): 1 when `Rav` is not the greater as signed quads. -/
def execCmple (ra : Reg) (b : Operand) (rc : Reg) (s : State π)
    (M : Setup π := by exact Sys2Proof.Machine.nativeSetup) : Host.Outcome (State π) Fault Refusal :=
  operate M (fun x y => boolWord (x.sle y)) ra b rc s

/-- `CMPULT` (R223): 1 when `Rav` is the lesser as unsigned quads. -/
def execCmpult (ra : Reg) (b : Operand) (rc : Reg) (s : State π)
    (M : Setup π := by exact Sys2Proof.Machine.nativeSetup) : Host.Outcome (State π) Fault Refusal :=
  operate M (fun x y => boolWord (x.ult y)) ra b rc s

/-- `CMPULE` (R224): 1 when `Rav` is not the greater as unsigned quads. -/
def execCmpule (ra : Reg) (b : Operand) (rc : Reg) (s : State π)
    (M : Setup π := by exact Sys2Proof.Machine.nativeSetup) : Host.Outcome (State π) Fault Refusal :=
  operate M (fun x y => boolWord (x.ule y)) ra b rc s

/-- Byte `i` of a register, bits `8i+7:8i` (R261). -/
def byteOf (v : Word) (i : Nat) : Byte := v.extractLsb' (8 * i) 8

/-- The eight unsigned byte compares of `CMPBGE`, one result bit each (R225). -/
def byteCompares (x y : Word) : Word :=
  (List.range 8).foldl (fun acc i => acc ||| (boolWord ((byteOf y i).ule (byteOf x i)) <<< i)) 0

/-- `CMPBGE` (R225): bit i of `x[Rc]` is 1 when byte i of `Rav` is at least byte i of `Rbv`, unsigned. -/
def execCmpbge (ra : Reg) (b : Operand) (rc : Reg) (s : State π)
    (M : Setup π := by exact Sys2Proof.Machine.nativeSetup) : Host.Outcome (State π) Fault Refusal :=
  operate M (fun x y => byteCompares x y) ra b rc s

/-- `MULL` (R226): the low 32 bits of the product, sign-extended. -/
def execMull (ra : Reg) (b : Operand) (rc : Reg) (s : State π)
    (M : Setup π := by exact Sys2Proof.Machine.nativeSetup) : Host.Outcome (State π) Fault Refusal :=
  operate M (fun x y => sext 32 (x * y)) ra b rc s

/-- `MULQ` (R227): the low 64 bits of the product. -/
def execMulq (ra : Reg) (b : Operand) (rc : Reg) (s : State π)
    (M : Setup π := by exact Sys2Proof.Machine.nativeSetup) : Host.Outcome (State π) Fault Refusal :=
  operate M (fun x y => x * y) ra b rc s

/-- `UMULH` (R228): the high 64 bits of the exact unsigned product. -/
def execUmulh (ra : Reg) (b : Operand) (rc : Reg) (s : State π)
    (M : Setup π := by exact Sys2Proof.Machine.nativeSetup) : Host.Outcome (State π) Fault Refusal :=
  operate M (fun x y => (x.setWidth 128 * y.setWidth 128).extractLsb' 64 64) ra b rc s

/-- `MULL/V` (R229): the exact signed product of the low longs, trapping when it does not fit 32 bits. -/
def execMullV (ra : Reg) (b : Operand) (rc : Reg) (s : State π)
    (M : Setup π := by exact Sys2Proof.Machine.nativeSetup) : Host.Outcome (State π) Fault Refusal :=
  operateTrap M (fun x y => sext 32 (BitVec.ofInt 64 (longProduct x y))) (fun x y _ => outsideSigned 32 (longProduct x y)) ra b rc s

/-- `MULQ/V` (R230): the exact signed product, trapping when it does not fit 64 bits. -/
def execMulqV (ra : Reg) (b : Operand) (rc : Reg) (s : State π)
    (M : Setup π := by exact Sys2Proof.Machine.nativeSetup) : Host.Outcome (State π) Fault Refusal :=
  operateTrap M (fun x y => BitVec.ofInt 64 (quadProduct x y)) (fun x y _ => outsideSigned 64 (quadProduct x y)) ra b rc s

end Sys2Proof.Machine
end

