-- ==== Sys2Proof/Machine/Logical.lean ====
section
/-! DEFINITION. Logical, conditional-move and feature-query instructions: opcode 0x11 (42_logical_cmov R240 to R257). -/

namespace Sys2Proof.Machine

variable {π : Type}

/-- `AND` (R241): `x[Rc] <- Rav & Rbv`. -/
def execAnd (ra : Reg) (b : Operand) (rc : Reg) (s : State π)
    (M : Setup π := by exact Sys2Proof.Machine.nativeSetup) : Host.Outcome (State π) Fault Refusal :=
  operate M (fun x y => x &&& y) ra b rc s

/-- `BIC` (R242): `x[Rc] <- Rav & ~Rbv`. -/
def execBic (ra : Reg) (b : Operand) (rc : Reg) (s : State π)
    (M : Setup π := by exact Sys2Proof.Machine.nativeSetup) : Host.Outcome (State π) Fault Refusal :=
  operate M (fun x y => x &&& ~~~y) ra b rc s

/-- `BIS` (R243): `x[Rc] <- Rav | Rbv`. -/
def execBis (ra : Reg) (b : Operand) (rc : Reg) (s : State π)
    (M : Setup π := by exact Sys2Proof.Machine.nativeSetup) : Host.Outcome (State π) Fault Refusal :=
  operate M (fun x y => x ||| y) ra b rc s

/-- `ORNOT` (R244): `x[Rc] <- Rav | ~Rbv`. -/
def execOrnot (ra : Reg) (b : Operand) (rc : Reg) (s : State π)
    (M : Setup π := by exact Sys2Proof.Machine.nativeSetup) : Host.Outcome (State π) Fault Refusal :=
  operate M (fun x y => x ||| ~~~y) ra b rc s

/-- `XOR` (R245): `x[Rc] <- Rav ^ Rbv`. -/
def execXor (ra : Reg) (b : Operand) (rc : Reg) (s : State π)
    (M : Setup π := by exact Sys2Proof.Machine.nativeSetup) : Host.Outcome (State π) Fault Refusal :=
  operate M (fun x y => x ^^^ y) ra b rc s

/-- `EQV` (R246): `x[Rc] <- Rav ^ ~Rbv`. -/
def execEqv (ra : Reg) (b : Operand) (rc : Reg) (s : State π)
    (M : Setup π := by exact Sys2Proof.Machine.nativeSetup) : Host.Outcome (State π) Fault Refusal :=
  operate M (fun x y => x ^^^ ~~~y) ra b rc s

/-- `CMOVLBS` (R248): `Rbv` goes to `x[Rc]` when bit 0 of `Rav` is set. -/
def execCmovlbs (ra : Reg) (b : Operand) (rc : Reg) (s : State π)
    (M : Setup π := by exact Sys2Proof.Machine.nativeSetup) : Host.Outcome (State π) Fault Refusal :=
  conditionalMove M .lowSet ra b rc s

/-- `CMOVLBC` (R249): `Rbv` goes to `x[Rc]` when bit 0 of `Rav` is clear. -/
def execCmovlbc (ra : Reg) (b : Operand) (rc : Reg) (s : State π)
    (M : Setup π := by exact Sys2Proof.Machine.nativeSetup) : Host.Outcome (State π) Fault Refusal :=
  conditionalMove M .lowClear ra b rc s

/-- `CMOVEQ` (R250): `Rbv` goes to `x[Rc]` when `Rav` is zero. -/
def execCmoveq (ra : Reg) (b : Operand) (rc : Reg) (s : State π)
    (M : Setup π := by exact Sys2Proof.Machine.nativeSetup) : Host.Outcome (State π) Fault Refusal :=
  conditionalMove M .eq ra b rc s

/-- `CMOVNE` (R251): `Rbv` goes to `x[Rc]` when `Rav` is not zero. -/
def execCmovne (ra : Reg) (b : Operand) (rc : Reg) (s : State π)
    (M : Setup π := by exact Sys2Proof.Machine.nativeSetup) : Host.Outcome (State π) Fault Refusal :=
  conditionalMove M .ne ra b rc s

/-- `CMOVLT` (R252): `Rbv` goes to `x[Rc]` when `Rav` is negative. -/
def execCmovlt (ra : Reg) (b : Operand) (rc : Reg) (s : State π)
    (M : Setup π := by exact Sys2Proof.Machine.nativeSetup) : Host.Outcome (State π) Fault Refusal :=
  conditionalMove M .lt ra b rc s

/-- `CMOVGE` (R253): `Rbv` goes to `x[Rc]` when `Rav` is not negative. -/
def execCmovge (ra : Reg) (b : Operand) (rc : Reg) (s : State π)
    (M : Setup π := by exact Sys2Proof.Machine.nativeSetup) : Host.Outcome (State π) Fault Refusal :=
  conditionalMove M .ge ra b rc s

/-- `CMOVLE` (R254): `Rbv` goes to `x[Rc]` when `Rav` is negative or zero. -/
def execCmovle (ra : Reg) (b : Operand) (rc : Reg) (s : State π)
    (M : Setup π := by exact Sys2Proof.Machine.nativeSetup) : Host.Outcome (State π) Fault Refusal :=
  conditionalMove M .le ra b rc s

/-- `CMOVGT` (R255): `Rbv` goes to `x[Rc]` when `Rav` is positive. -/
def execCmovgt (ra : Reg) (b : Operand) (rc : Reg) (s : State π)
    (M : Setup π := by exact Sys2Proof.Machine.nativeSetup) : Host.Outcome (State π) Fault Refusal :=
  conditionalMove M .gt ra b rc s

/-- `AMASK` (R256): `x[Rc] <- Rbv & ~AMASK_FEATURES`. -/
def execAmask (b : Operand) (rc : Reg) (s : State π)
    (M : Setup π := by exact Sys2Proof.Machine.nativeSetup) : Host.Outcome (State π) Fault Refusal :=
  complete M (s.writeInt rc (operandValue s b &&& ~~~M.amaskFeatures)).advance

/-- `IMPLVER` (R257): `x[Rc] <- IMPLVER_VALUE`. -/
def execImplver (rc : Reg) (s : State π)
    (M : Setup π := by exact Sys2Proof.Machine.nativeSetup) : Host.Outcome (State π) Fault Refusal :=
  complete M (s.writeInt rc M.implverValue).advance

end Sys2Proof.Machine
end

