-- ==== Sys2Proof/Machine/MemoryFormat.lean ====
section
/-! DEFINITION. Load-address, integer load and integer store instructions (40_memory_format R170 to R186). Byte accesses are always
aligned, and so are the unaligned-quad forms, whose address is masked (20_memory R78, R79). -/

namespace Sys2Proof.Machine

variable {π : Type}

/-- `LDA` (R171): `x[Ra] <- x[Rb] + sext_16(disp16)`; no access. -/
def execLda (ra rb : Reg) (disp : BitVec 16) (s : State π)
    (M : Setup π := by exact Sys2Proof.Machine.nativeSetup) : Host.Outcome (State π) Fault Refusal :=
  complete M (s.writeInt ra (effAddr s rb disp)).advance

/-- `LDAH` (R172): `x[Ra] <- x[Rb] + (sext_16(disp16) << 16)`; no access. -/
def execLdah (ra rb : Reg) (disp : BitVec 16) (s : State π)
    (M : Setup π := by exact Sys2Proof.Machine.nativeSetup) : Host.Outcome (State π) Fault Refusal :=
  complete M (s.writeInt ra (s.readInt rb + (disp.signExtend 64 <<< 16))).advance

/-- `LDBU` (R173): the byte, zero-extended. -/
def execLdbu (ra rb : Reg) (disp : BitVec 16) (s : State π)
    (M : Setup π := by exact Sys2Proof.Machine.nativeSetup) : Host.Outcome (State π) Fault Refusal :=
  finish M (loadInt M .byte id ra (effAddr s rb disp) s)

/-- `LDWU` (R174): the word, zero-extended. -/
def execLdwu (ra rb : Reg) (disp : BitVec 16) (s : State π)
    (M : Setup π := by exact Sys2Proof.Machine.nativeSetup) : Host.Outcome (State π) Fault Refusal :=
  finish M (loadInt M .word id ra (effAddr s rb disp) s)

/-- `LDL` (R175): the long, sign-extended. -/
def execLdl (ra rb : Reg) (disp : BitVec 16) (s : State π)
    (M : Setup π := by exact Sys2Proof.Machine.nativeSetup) : Host.Outcome (State π) Fault Refusal :=
  finish M (loadInt M .long (sext 32) ra (effAddr s rb disp) s)

/-- `LDQ` (R177): the quad. -/
def execLdq (ra rb : Reg) (disp : BitVec 16) (s : State π)
    (M : Setup π := by exact Sys2Proof.Machine.nativeSetup) : Host.Outcome (State π) Fault Refusal :=
  finish M (loadInt M .quad id ra (effAddr s rb disp) s)

/-- `LDQ_U` (R176): the quad that holds the address, its low three bits dropped. The access is made whatever `Ra` is, so the
family's `UNOP`, `LDQ_U R31, 0(Rx)`, is no no-operation (R156, R161). -/
def execLdqU (ra rb : Reg) (disp : BitVec 16) (s : State π)
    (M : Setup π := by exact Sys2Proof.Machine.nativeSetup) : Host.Outcome (State π) Fault Refusal :=
  finish M (loadInt M .quad id ra (quadBase (effAddr s rb disp)) s)

/-- `LDL_L` (R178): `LDL`, then `lock_flag <- 1`. -/
def execLdlL (ra rb : Reg) (disp : BitVec 16) (s : State π)
    (M : Setup π := by exact Sys2Proof.Machine.nativeSetup) : Host.Outcome (State π) Fault Refusal :=
  finish M (loadLocked M .long (sext 32) ra (effAddr s rb disp) s)

/-- `LDQ_L` (R179): `LDQ`, then `lock_flag <- 1`. -/
def execLdqL (ra rb : Reg) (disp : BitVec 16) (s : State π)
    (M : Setup π := by exact Sys2Proof.Machine.nativeSetup) : Host.Outcome (State π) Fault Refusal :=
  finish M (loadLocked M .quad id ra (effAddr s rb disp) s)

/-- `STB` (R180): `x[Ra][7:0]`. -/
def execStb (ra rb : Reg) (disp : BitVec 16) (s : State π)
    (M : Setup π := by exact Sys2Proof.Machine.nativeSetup) : Host.Outcome (State π) Fault Refusal :=
  finish M (storeInt M .byte ra (effAddr s rb disp) s)

/-- `STW` (R181): `x[Ra][15:0]`. -/
def execStw (ra rb : Reg) (disp : BitVec 16) (s : State π)
    (M : Setup π := by exact Sys2Proof.Machine.nativeSetup) : Host.Outcome (State π) Fault Refusal :=
  finish M (storeInt M .word ra (effAddr s rb disp) s)

/-- `STL` (R182): `x[Ra][31:0]`. -/
def execStl (ra rb : Reg) (disp : BitVec 16) (s : State π)
    (M : Setup π := by exact Sys2Proof.Machine.nativeSetup) : Host.Outcome (State π) Fault Refusal :=
  finish M (storeInt M .long ra (effAddr s rb disp) s)

/-- `STQ` (R184): `x[Ra]`. -/
def execStq (ra rb : Reg) (disp : BitVec 16) (s : State π)
    (M : Setup π := by exact Sys2Proof.Machine.nativeSetup) : Host.Outcome (State π) Fault Refusal :=
  finish M (storeInt M .quad ra (effAddr s rb disp) s)

/-- `STQ_U` (R183): the quad that holds the address, its low three bits dropped. -/
def execStqU (ra rb : Reg) (disp : BitVec 16) (s : State π)
    (M : Setup π := by exact Sys2Proof.Machine.nativeSetup) : Host.Outcome (State π) Fault Refusal :=
  finish M (storeInt M .quad ra (quadBase (effAddr s rb disp)) s)

/-- `STL_C` (R185): the store-conditional of a long. -/
def execStlC (ra rb : Reg) (disp : BitVec 16) (s : State π)
    (M : Setup π := by exact Sys2Proof.Machine.nativeSetup) : Host.Outcome (State π) Fault Refusal :=
  finish M (storeConditional M .long ra (effAddr s rb disp) s)

/-- `STQ_C` (R186): the store-conditional of a quad. -/
def execStqC (ra rb : Reg) (disp : BitVec 16) (s : State π)
    (M : Setup π := by exact Sys2Proof.Machine.nativeSetup) : Host.Outcome (State π) Fault Refusal :=
  finish M (storeConditional M .quad ra (effAddr s rb disp) s)

end Sys2Proof.Machine
end

