-- ==== Sys2Proof/Machine/Misc.lean ====
section
/-! DEFINITION. Barriers, hints, the counter and the interrupt flag: opcode 0x18 (45_misc R330 to R341). -/

namespace Sys2Proof.Machine

variable {π : Type}

/-- `TRAPB` (R333): no operation: no trap is ever outstanding. -/
def execTrapb (s : State π)
    (M : Setup π := by exact Sys2Proof.Machine.nativeSetup) : Host.Outcome (State π) Fault Refusal :=
  complete M s.advance

/-- `EXCB` (R332): no operation: no exception is ever outstanding. -/
def execExcb (s : State π)
    (M : Setup π := by exact Sys2Proof.Machine.nativeSetup) : Host.Outcome (State π) Fault Refusal :=
  complete M s.advance

/-- `MB` (R330): no operation: the order it would enforce holds (R85). -/
def execMb (s : State π)
    (M : Setup π := by exact Sys2Proof.Machine.nativeSetup) : Host.Outcome (State π) Fault Refusal :=
  complete M s.advance

/-- `WMB` (R331): no operation. -/
def execWmb (s : State π)
    (M : Setup π := by exact Sys2Proof.Machine.nativeSetup) : Host.Outcome (State π) Fault Refusal :=
  complete M s.advance

/-- `FETCH` (R334): a hint without effect; the address is not translated. -/
def execFetch (_rb : Reg) (s : State π)
    (M : Setup π := by exact Sys2Proof.Machine.nativeSetup) : Host.Outcome (State π) Fault Refusal :=
  complete M s.advance

/-- `FETCH_M` (R335): a hint without effect. -/
def execFetchM (_rb : Reg) (s : State π)
    (M : Setup π := by exact Sys2Proof.Machine.nativeSetup) : Host.Outcome (State π) Fault Refusal :=
  complete M s.advance

/-- `ECB` (R339): no operation: there is no cache. -/
def execEcb (_rb : Reg) (s : State π)
    (M : Setup π := by exact Sys2Proof.Machine.nativeSetup) : Host.Outcome (State π) Fault Refusal :=
  complete M s.advance

/-- `WH64` (R340): no operation: memory keeps its contents. -/
def execWh64 (_rb : Reg) (s : State π)
    (M : Setup π := by exact Sys2Proof.Machine.nativeSetup) : Host.Outcome (State π) Fault Refusal :=
  complete M s.advance

/-- `RPCC` (R336): `x[Ra] <- draw(64)`; free value (log entry 6). -/
def execRpcc (ra : Reg) (s : State π)
    (M : Setup π := by exact Sys2Proof.Machine.nativeSetup) : Host.Outcome (State π) Fault Refusal :=
  complete M ({ s with draws := s.draws + 1 }.writeInt ra (Config.freeWord s.draws)).advance

/-- `RS` (R337): `x[Ra] <- zext(intr_flag); intr_flag <- 1`. -/
def execRs (ra : Reg) (s : State π)
    (M : Setup π := by exact Sys2Proof.Machine.nativeSetup) : Host.Outcome (State π) Fault Refusal :=
  complete M { s.writeInt ra (boolWord s.intrFlag) with intrFlag := true }.advance

/-- `RC` (R338): `x[Ra] <- zext(intr_flag); intr_flag <- 0`. -/
def execRc (ra : Reg) (s : State π)
    (M : Setup π := by exact Sys2Proof.Machine.nativeSetup) : Host.Outcome (State π) Fault Refusal :=
  complete M { s.writeInt ra (boolWord s.intrFlag) with intrFlag := false }.advance

end Sys2Proof.Machine
end

