-- ==== Sys2Proof/Machine/Shift.lean ====
section
/-! DEFINITION. Shift, byte-manipulation and sign-extend instructions: opcodes 0x12 and 0x1C (43_shift_bytemanip R260 to R290). -/

namespace Sys2Proof.Machine

variable {π : Type}

/-- The shift count `Rbv[5:0]` (R262). -/
def shiftCount (y : Word) : Nat := (y.extractLsb' 0 6).toNat

/-- The shift of a byte position in bits, `8 * Rbv[2:0]` (R261). -/
def byteShift (y : Word) : Nat := 8 * (y.extractLsb' 0 3).toNat

/-- The size masks `M_B`, `M_W`, `M_L`, `M_Q` (R261). -/
def Width.mask : Width → Word
  | .byte => 0xFF
  | .word => 0xFFFF
  | .long => 0xFFFFFFFF
  | .quad => 0xFFFFFFFFFFFFFFFF

/-- The 128-bit intermediate `T` (R261): a quad moved up to its byte position. -/
def wideShift (v y : Word) : BitVec 128 := v.setWidth 128 <<< byteShift y

/-- `T[63:0]`, the part in the quad of the first byte. -/
def lowPart (t : BitVec 128) : Word := t.extractLsb' 0 64

/-- `T[127:64]`, the part that spills into the following quad. -/
def highPart (t : BitVec 128) : Word := t.extractLsb' 64 64

/-- Extract low: shift down, keep the datum's width (R265 to R268). -/
def extractLow (w : Width) (x y : Word) : Word := (x >>> byteShift y) &&& w.mask

/-- Extract high: shift up by `(64 - 8b) mod 64`, keep the datum's width (R269 to R271). -/
def extractHigh (w : Width) (x y : Word) : Word := (x <<< ((64 - byteShift y) % 64)) &&& w.mask

/-- Insert low (R272 to R275). -/
def insertLow (w : Width) (x y : Word) : Word := lowPart (wideShift (x &&& w.mask) y)

/-- Insert high (R276 to R278). -/
def insertHigh (w : Width) (x y : Word) : Word := highPart (wideShift (x &&& w.mask) y)

/-- Mask low: the datum's bytes in this quad cleared (R279 to R282). -/
def maskLow (w : Width) (x y : Word) : Word := x &&& ~~~lowPart (wideShift w.mask y)

/-- Mask high: the datum's bytes that spilled into this quad cleared (R283 to R285). -/
def maskHigh (w : Width) (x y : Word) : Word := x &&& ~~~highPart (wideShift w.mask y)

/-- The bytes of a value kept where a test of their index holds, zero elsewhere (R286, R287). -/
def keepBytes (keep : Nat → Bool) (x : Word) : Word :=
  leValue ((List.range 8).map fun i => if keep i then x.extractLsb' (8 * i) 8 else 0)

/-- `SLL` (R262): `x[Rc] <- Rav << Rbv[5:0]`. -/
def execSll (ra : Reg) (b : Operand) (rc : Reg) (s : State π)
    (M : Setup π := by exact Sys2Proof.Machine.nativeSetup) : Host.Outcome (State π) Fault Refusal :=
  operate M (fun x y => x <<< shiftCount y) ra b rc s

/-- `SRL` (R263): `x[Rc] <- Rav >> Rbv[5:0]`, zeros entering. -/
def execSrl (ra : Reg) (b : Operand) (rc : Reg) (s : State π)
    (M : Setup π := by exact Sys2Proof.Machine.nativeSetup) : Host.Outcome (State π) Fault Refusal :=
  operate M (fun x y => x >>> shiftCount y) ra b rc s

/-- `SRA` (R264): the arithmetic right shift by `Rbv[5:0]`. -/
def execSra (ra : Reg) (b : Operand) (rc : Reg) (s : State π)
    (M : Setup π := by exact Sys2Proof.Machine.nativeSetup) : Host.Outcome (State π) Fault Refusal :=
  operate M (fun x y => x.sshiftRight (shiftCount y)) ra b rc s

/-- `EXTBL` (R265): extract byte low. -/
def execExtbl (ra : Reg) (b : Operand) (rc : Reg) (s : State π)
    (M : Setup π := by exact Sys2Proof.Machine.nativeSetup) : Host.Outcome (State π) Fault Refusal :=
  operate M (fun x y => extractLow .byte x y) ra b rc s

/-- `EXTWL` (R266): extract word low. -/
def execExtwl (ra : Reg) (b : Operand) (rc : Reg) (s : State π)
    (M : Setup π := by exact Sys2Proof.Machine.nativeSetup) : Host.Outcome (State π) Fault Refusal :=
  operate M (fun x y => extractLow .word x y) ra b rc s

/-- `EXTLL` (R267): extract long low. -/
def execExtll (ra : Reg) (b : Operand) (rc : Reg) (s : State π)
    (M : Setup π := by exact Sys2Proof.Machine.nativeSetup) : Host.Outcome (State π) Fault Refusal :=
  operate M (fun x y => extractLow .long x y) ra b rc s

/-- `EXTQL` (R268): extract quad low. -/
def execExtql (ra : Reg) (b : Operand) (rc : Reg) (s : State π)
    (M : Setup π := by exact Sys2Proof.Machine.nativeSetup) : Host.Outcome (State π) Fault Refusal :=
  operate M (fun x y => extractLow .quad x y) ra b rc s

/-- `EXTWH` (R269): extract word high. -/
def execExtwh (ra : Reg) (b : Operand) (rc : Reg) (s : State π)
    (M : Setup π := by exact Sys2Proof.Machine.nativeSetup) : Host.Outcome (State π) Fault Refusal :=
  operate M (fun x y => extractHigh .word x y) ra b rc s

/-- `EXTLH` (R270): extract long high. -/
def execExtlh (ra : Reg) (b : Operand) (rc : Reg) (s : State π)
    (M : Setup π := by exact Sys2Proof.Machine.nativeSetup) : Host.Outcome (State π) Fault Refusal :=
  operate M (fun x y => extractHigh .long x y) ra b rc s

/-- `EXTQH` (R271): extract quad high. -/
def execExtqh (ra : Reg) (b : Operand) (rc : Reg) (s : State π)
    (M : Setup π := by exact Sys2Proof.Machine.nativeSetup) : Host.Outcome (State π) Fault Refusal :=
  operate M (fun x y => extractHigh .quad x y) ra b rc s

/-- `INSBL` (R272): insert byte low. -/
def execInsbl (ra : Reg) (b : Operand) (rc : Reg) (s : State π)
    (M : Setup π := by exact Sys2Proof.Machine.nativeSetup) : Host.Outcome (State π) Fault Refusal :=
  operate M (fun x y => insertLow .byte x y) ra b rc s

/-- `INSWL` (R273): insert word low. -/
def execInswl (ra : Reg) (b : Operand) (rc : Reg) (s : State π)
    (M : Setup π := by exact Sys2Proof.Machine.nativeSetup) : Host.Outcome (State π) Fault Refusal :=
  operate M (fun x y => insertLow .word x y) ra b rc s

/-- `INSLL` (R274): insert long low. -/
def execInsll (ra : Reg) (b : Operand) (rc : Reg) (s : State π)
    (M : Setup π := by exact Sys2Proof.Machine.nativeSetup) : Host.Outcome (State π) Fault Refusal :=
  operate M (fun x y => insertLow .long x y) ra b rc s

/-- `INSQL` (R275): insert quad low. -/
def execInsql (ra : Reg) (b : Operand) (rc : Reg) (s : State π)
    (M : Setup π := by exact Sys2Proof.Machine.nativeSetup) : Host.Outcome (State π) Fault Refusal :=
  operate M (fun x y => insertLow .quad x y) ra b rc s

/-- `INSWH` (R276): insert word high. -/
def execInswh (ra : Reg) (b : Operand) (rc : Reg) (s : State π)
    (M : Setup π := by exact Sys2Proof.Machine.nativeSetup) : Host.Outcome (State π) Fault Refusal :=
  operate M (fun x y => insertHigh .word x y) ra b rc s

/-- `INSLH` (R277): insert long high. -/
def execInslh (ra : Reg) (b : Operand) (rc : Reg) (s : State π)
    (M : Setup π := by exact Sys2Proof.Machine.nativeSetup) : Host.Outcome (State π) Fault Refusal :=
  operate M (fun x y => insertHigh .long x y) ra b rc s

/-- `INSQH` (R278): insert quad high. -/
def execInsqh (ra : Reg) (b : Operand) (rc : Reg) (s : State π)
    (M : Setup π := by exact Sys2Proof.Machine.nativeSetup) : Host.Outcome (State π) Fault Refusal :=
  operate M (fun x y => insertHigh .quad x y) ra b rc s

/-- `MSKBL` (R279): mask byte low. -/
def execMskbl (ra : Reg) (b : Operand) (rc : Reg) (s : State π)
    (M : Setup π := by exact Sys2Proof.Machine.nativeSetup) : Host.Outcome (State π) Fault Refusal :=
  operate M (fun x y => maskLow .byte x y) ra b rc s

/-- `MSKWL` (R280): mask word low. -/
def execMskwl (ra : Reg) (b : Operand) (rc : Reg) (s : State π)
    (M : Setup π := by exact Sys2Proof.Machine.nativeSetup) : Host.Outcome (State π) Fault Refusal :=
  operate M (fun x y => maskLow .word x y) ra b rc s

/-- `MSKLL` (R281): mask long low. -/
def execMskll (ra : Reg) (b : Operand) (rc : Reg) (s : State π)
    (M : Setup π := by exact Sys2Proof.Machine.nativeSetup) : Host.Outcome (State π) Fault Refusal :=
  operate M (fun x y => maskLow .long x y) ra b rc s

/-- `MSKQL` (R282): mask quad low. -/
def execMskql (ra : Reg) (b : Operand) (rc : Reg) (s : State π)
    (M : Setup π := by exact Sys2Proof.Machine.nativeSetup) : Host.Outcome (State π) Fault Refusal :=
  operate M (fun x y => maskLow .quad x y) ra b rc s

/-- `MSKWH` (R283): mask word high. -/
def execMskwh (ra : Reg) (b : Operand) (rc : Reg) (s : State π)
    (M : Setup π := by exact Sys2Proof.Machine.nativeSetup) : Host.Outcome (State π) Fault Refusal :=
  operate M (fun x y => maskHigh .word x y) ra b rc s

/-- `MSKLH` (R284): mask long high. -/
def execMsklh (ra : Reg) (b : Operand) (rc : Reg) (s : State π)
    (M : Setup π := by exact Sys2Proof.Machine.nativeSetup) : Host.Outcome (State π) Fault Refusal :=
  operate M (fun x y => maskHigh .long x y) ra b rc s

/-- `MSKQH` (R285): mask quad high. -/
def execMskqh (ra : Reg) (b : Operand) (rc : Reg) (s : State π)
    (M : Setup π := by exact Sys2Proof.Machine.nativeSetup) : Host.Outcome (State π) Fault Refusal :=
  operate M (fun x y => maskHigh .quad x y) ra b rc s

/-- `ZAP` (R286): byte i of the result is 0 when `Rbv[i]` is 1. -/
def execZap (ra : Reg) (b : Operand) (rc : Reg) (s : State π)
    (M : Setup π := by exact Sys2Proof.Machine.nativeSetup) : Host.Outcome (State π) Fault Refusal :=
  operate M (fun x y => keepBytes (fun i => !y.getLsbD i) x) ra b rc s

/-- `ZAPNOT` (R287): byte i of the result is 0 when `Rbv[i]` is 0. -/
def execZapnot (ra : Reg) (b : Operand) (rc : Reg) (s : State π)
    (M : Setup π := by exact Sys2Proof.Machine.nativeSetup) : Host.Outcome (State π) Fault Refusal :=
  operate M (fun x y => keepBytes (fun i => y.getLsbD i) x) ra b rc s

/-- `SEXTB` (R288): `x[Rc] <- sext_8(Rbv)`. -/
def execSextb (b : Operand) (rc : Reg) (s : State π)
    (M : Setup π := by exact Sys2Proof.Machine.nativeSetup) : Host.Outcome (State π) Fault Refusal :=
  complete M (s.writeInt rc (sext 8 (operandValue s b))).advance

/-- `SEXTW` (R289): `x[Rc] <- sext_16(Rbv)`. -/
def execSextw (b : Operand) (rc : Reg) (s : State π)
    (M : Setup π := by exact Sys2Proof.Machine.nativeSetup) : Host.Outcome (State π) Fault Refusal :=
  complete M (s.writeInt rc (sext 16 (operandValue s b))).advance

end Sys2Proof.Machine
end

