-- ==== Sys2Proof/Machine/Under.lean ====
section
/-! DEFINITION. The meaning of every instruction under any parameters of the step (00_scope R7, R14): the same meanings
that `Dispatch.lean` runs under `nativeSetup`, one arm a constructor. -/

namespace Sys2Proof.Machine

/-- Execute one instruction under the configuration, personality and collaborators `M`. -/
def execUnder {π : Type} (M : Setup π) (i : Instr) (s : State π) : Host.Outcome (State π) Fault Refusal :=
  match i with
  | .callPal mbz cls n => execCallPal mbz cls n s M
  | .opc01 => execOpc01 s M
  | .opc02 => execOpc02 s M
  | .opc03 => execOpc03 s M
  | .opc04 => execOpc04 s M
  | .opc05 => execOpc05 s M
  | .opc06 => execOpc06 s M
  | .opc07 => execOpc07 s M
  | .lda ra rb disp => execLda ra rb disp s M
  | .ldah ra rb disp => execLdah ra rb disp s M
  | .ldbu ra rb disp => execLdbu ra rb disp s M
  | .ldqU ra rb disp => execLdqU ra rb disp s M
  | .ldwu ra rb disp => execLdwu ra rb disp s M
  | .stw ra rb disp => execStw ra rb disp s M
  | .stb ra rb disp => execStb ra rb disp s M
  | .stqU ra rb disp => execStqU ra rb disp s M
  | .addl ra b rc => execAddl ra b rc s M
  | .s4addl ra b rc => execS4addl ra b rc s M
  | .subl ra b rc => execSubl ra b rc s M
  | .s4subl ra b rc => execS4subl ra b rc s M
  | .cmpbge ra b rc => execCmpbge ra b rc s M
  | .s8addl ra b rc => execS8addl ra b rc s M
  | .s8subl ra b rc => execS8subl ra b rc s M
  | .cmpult ra b rc => execCmpult ra b rc s M
  | .addq ra b rc => execAddq ra b rc s M
  | .s4addq ra b rc => execS4addq ra b rc s M
  | .subq ra b rc => execSubq ra b rc s M
  | .s4subq ra b rc => execS4subq ra b rc s M
  | .cmpeq ra b rc => execCmpeq ra b rc s M
  | .s8addq ra b rc => execS8addq ra b rc s M
  | .s8subq ra b rc => execS8subq ra b rc s M
  | .cmpule ra b rc => execCmpule ra b rc s M
  | .addlV ra b rc => execAddlV ra b rc s M
  | .sublV ra b rc => execSublV ra b rc s M
  | .cmplt ra b rc => execCmplt ra b rc s M
  | .addqV ra b rc => execAddqV ra b rc s M
  | .subqV ra b rc => execSubqV ra b rc s M
  | .cmple ra b rc => execCmple ra b rc s M
  | .and ra b rc => execAnd ra b rc s M
  | .bic ra b rc => execBic ra b rc s M
  | .cmovlbs ra b rc => execCmovlbs ra b rc s M
  | .cmovlbc ra b rc => execCmovlbc ra b rc s M
  | .bis ra b rc => execBis ra b rc s M
  | .cmoveq ra b rc => execCmoveq ra b rc s M
  | .cmovne ra b rc => execCmovne ra b rc s M
  | .ornot ra b rc => execOrnot ra b rc s M
  | .xor ra b rc => execXor ra b rc s M
  | .cmovlt ra b rc => execCmovlt ra b rc s M
  | .cmovge ra b rc => execCmovge ra b rc s M
  | .eqv ra b rc => execEqv ra b rc s M
  | .amask b rc => execAmask b rc s M
  | .cmovle ra b rc => execCmovle ra b rc s M
  | .cmovgt ra b rc => execCmovgt ra b rc s M
  | .implver rc => execImplver rc s M
  | .mskbl ra b rc => execMskbl ra b rc s M
  | .extbl ra b rc => execExtbl ra b rc s M
  | .insbl ra b rc => execInsbl ra b rc s M
  | .mskwl ra b rc => execMskwl ra b rc s M
  | .extwl ra b rc => execExtwl ra b rc s M
  | .inswl ra b rc => execInswl ra b rc s M
  | .mskll ra b rc => execMskll ra b rc s M
  | .extll ra b rc => execExtll ra b rc s M
  | .insll ra b rc => execInsll ra b rc s M
  | .zap ra b rc => execZap ra b rc s M
  | .zapnot ra b rc => execZapnot ra b rc s M
  | .mskql ra b rc => execMskql ra b rc s M
  | .srl ra b rc => execSrl ra b rc s M
  | .extql ra b rc => execExtql ra b rc s M
  | .sll ra b rc => execSll ra b rc s M
  | .insql ra b rc => execInsql ra b rc s M
  | .sra ra b rc => execSra ra b rc s M
  | .mskwh ra b rc => execMskwh ra b rc s M
  | .inswh ra b rc => execInswh ra b rc s M
  | .extwh ra b rc => execExtwh ra b rc s M
  | .msklh ra b rc => execMsklh ra b rc s M
  | .inslh ra b rc => execInslh ra b rc s M
  | .extlh ra b rc => execExtlh ra b rc s M
  | .mskqh ra b rc => execMskqh ra b rc s M
  | .insqh ra b rc => execInsqh ra b rc s M
  | .extqh ra b rc => execExtqh ra b rc s M
  | .mull ra b rc => execMull ra b rc s M
  | .mulq ra b rc => execMulq ra b rc s M
  | .umulh ra b rc => execUmulh ra b rc s M
  | .mullV ra b rc => execMullV ra b rc s M
  | .mulqV ra b rc => execMulqV ra b rc s M
  | .itfp fa fb fc fn => execItfp fa fb fc fn s M
  | .fltv fa fb fc fn => execFltv fa fb fc fn s M
  | .flti fa fb fc fn => execFlti fa fb fc fn s M
  | .fltl fa fb fc fn => execFltl fa fb fc fn s M
  | .trapb => execTrapb s M
  | .excb => execExcb s M
  | .mb => execMb s M
  | .wmb => execWmb s M
  | .fetch rb => execFetch rb s M
  | .fetchM rb => execFetchM rb s M
  | .rpcc ra => execRpcc ra s M
  | .rc ra => execRc ra s M
  | .ecb rb => execEcb rb s M
  | .rs ra => execRs ra s M
  | .wh64 rb => execWh64 rb s M
  | .hwMfpr ra index => execHwMfpr ra index s M
  | .jmp ra rb => execJmp ra rb s M
  | .jsr ra rb => execJsr ra rb s M
  | .ret ra rb => execRet ra rb s M
  | .jsrCoroutine ra rb => execJsrCoroutine ra rb s M
  | .hwLd ra rb q disp => execHwLd ra rb q disp s M
  | .sextb b rc => execSextb b rc s M
  | .sextw b rc => execSextw b rc s M
  | .hwMtpr rb index => execHwMtpr rb index s M
  | .hwRei rs mbz => execHwRei rs mbz s M
  | .hwSt ra rb q disp => execHwSt ra rb q disp s M
  | .ldf fa rb disp => execLdf fa rb disp s M
  | .ldg fa rb disp => execLdg fa rb disp s M
  | .lds fa rb disp => execLds fa rb disp s M
  | .ldt fa rb disp => execLdt fa rb disp s M
  | .stf fa rb disp => execStf fa rb disp s M
  | .stg fa rb disp => execStg fa rb disp s M
  | .sts fa rb disp => execSts fa rb disp s M
  | .stt fa rb disp => execStt fa rb disp s M
  | .ldl ra rb disp => execLdl ra rb disp s M
  | .ldq ra rb disp => execLdq ra rb disp s M
  | .ldlL ra rb disp => execLdlL ra rb disp s M
  | .ldqL ra rb disp => execLdqL ra rb disp s M
  | .stl ra rb disp => execStl ra rb disp s M
  | .stq ra rb disp => execStq ra rb disp s M
  | .stlC ra rb disp => execStlC ra rb disp s M
  | .stqC ra rb disp => execStqC ra rb disp s M
  | .br ra disp => execBr ra disp s M
  | .fbeq fa disp => execFbeq fa disp s M
  | .fblt fa disp => execFblt fa disp s M
  | .fble fa disp => execFble fa disp s M
  | .bsr ra disp => execBsr ra disp s M
  | .fbne fa disp => execFbne fa disp s M
  | .fbge fa disp => execFbge fa disp s M
  | .fbgt fa disp => execFbgt fa disp s M
  | .blbc ra disp => execBlbc ra disp s M
  | .beq ra disp => execBeq ra disp s M
  | .blt ra disp => execBlt ra disp s M
  | .ble ra disp => execBle ra disp s M
  | .blbs ra disp => execBlbs ra disp s M
  | .bne ra disp => execBne ra disp s M
  | .bge ra disp => execBge ra disp s M
  | .bgt ra disp => execBgt ra disp s M

end Sys2Proof.Machine
end

