-- ==== Sys2Proof/Machine/Cycle.lean ====
section
/-! DEFINITION. The step under any parameters (30_encoding R130, R131; 60_exceptions R431, R447): the interrupt poll, the
fetch, the decoding of the word fetched, the execution and the end of the step. -/

namespace Sys2Proof.Machine

variable {π : Type}

/-- Phase 1: the level of the interrupt taken at this boundary, 0 for none; nothing is polled in firmware mode (R431,
R432). -/
def pendingLevel (M : Setup π) (s : State π) : Fin 32 :=
  if s.palMode then 0 else M.personality.evalPendingInterrupt s.ipl s.irq s

/-- The physical address of the fetch (R131): untranslated in firmware mode. -/
def fetchAddr (M : Setup π) (s : State π) : Result π PhysAddr :=
  if s.palMode then .ok (field s.pc 0 M.paBits) s else translate M s.pc .execute s.cm s

/-- Phase 2: the instruction word at `PC` (R131). -/
def fetchWord (M : Setup π) (s : State π) : Result π (BitVec 32) :=
  (fetchAddr M s).andThen fun pa s1 => (memRead M pa .long s1).andThen fun v s2 => .ok (v.setWidth 32) s2

/-- Phases 3 to 6 for a word: an encoding that is no instruction raises reserved-instruction (R155). -/
def runWord (M : Setup π) (w : BitVec 32) (s : State π) : Host.Outcome (State π) Fault Refusal :=
  match decode w with
  | .ok i => execUnder M i s
  | .error _ => finish M (raise .reservedInstruction 0 s)

/-- Phases 2 to 6. -/
def runInstruction (M : Setup π) (s : State π) : Host.Outcome (State π) Fault Refusal :=
  match fetchWord M s with
  | .ok w s' => runWord M w s'
  | .raised k va m s' => finish M (.raised k va m s')
  | .stopped c => .fault c

/-- Phases 1 to 6. -/
def boundary (M : Setup π) (s : State π) : Host.Outcome (State π) Fault Refusal :=
  if pendingLevel M s = 0 then runInstruction M s else takeInterrupt M (pendingLevel M s) s

/-- The request vector of the next step: the next one the environment supplies, else the lines hold (R430; log
entry 4). -/
def State.sampleIrq (s : State π) : State π :=
  match s.irqNext with
  | v :: rest => { s with irq := v, irqNext := rest }
  | [] => s

/-- Phase 7: a halt request is cleared and reported (R447; log entry 9), and the next vector is sampled. -/
def State.endStep (M : Setup π) (s : State π) : State π :=
  let n := s.privateRegisters M
  { s.sampleIrq.setPrivate M { n with haltReq := false } with
    report := if n.haltReq then .haltRequested else .running }

/-- A step's outcome, phase 7 applied to its next state. -/
def closeStep (M : Setup π) (o : Host.Outcome (State π) Fault Refusal) : Host.Outcome (State π) Fault Refusal :=
  match o with
  | .next s => .next (s.endStep M)
  | .fault f => .fault f
  | .refused r => .refused r

/-- `Step(irq)` of R130 as a function of its parameters (R14) and the state, the vector `irq` being the state's. -/
def stepUnder (M : Setup π) (s : State π) : Host.Outcome (State π) Fault Refusal := closeStep M (boundary M s)

end Sys2Proof.Machine
end

