-- ==== Sys2Proof/Machine/Dispatch.lean ====
section
/-! DEFINITION. The meaning of every instruction, one arm a constructor (spec/opcode_table.json order). -/

namespace Sys2Proof.Machine

open Sys2Proof

def exec (i : Instr) (s : State) : Host.Outcome State Fault Refusal :=
  match i with
  | .callPal mbz cls n => Sys2Proof.Machine.execCallPal mbz cls n s
  | .opc01 => Sys2Proof.Machine.execOpc01 s
  | .opc02 => Sys2Proof.Machine.execOpc02 s
  | .opc03 => Sys2Proof.Machine.execOpc03 s
  | .opc04 => Sys2Proof.Machine.execOpc04 s
  | .opc05 => Sys2Proof.Machine.execOpc05 s
  | .opc06 => Sys2Proof.Machine.execOpc06 s
  | .opc07 => Sys2Proof.Machine.execOpc07 s
  | .lda ra rb disp => Sys2Proof.Machine.execLda ra rb disp s
  | .ldah ra rb disp => Sys2Proof.Machine.execLdah ra rb disp s
  | .ldbu ra rb disp => Sys2Proof.Machine.execLdbu ra rb disp s
  | .ldqU ra rb disp => Sys2Proof.Machine.execLdqU ra rb disp s
  | .ldwu ra rb disp => Sys2Proof.Machine.execLdwu ra rb disp s
  | .stw ra rb disp => Sys2Proof.Machine.execStw ra rb disp s
  | .stb ra rb disp => Sys2Proof.Machine.execStb ra rb disp s
  | .stqU ra rb disp => Sys2Proof.Machine.execStqU ra rb disp s
  | .addl ra b rc => Sys2Proof.Machine.execAddl ra b rc s
  | .s4addl ra b rc => Sys2Proof.Machine.execS4addl ra b rc s
  | .subl ra b rc => Sys2Proof.Machine.execSubl ra b rc s
  | .s4subl ra b rc => Sys2Proof.Machine.execS4subl ra b rc s
  | .cmpbge ra b rc => Sys2Proof.Machine.execCmpbge ra b rc s
  | .s8addl ra b rc => Sys2Proof.Machine.execS8addl ra b rc s
  | .s8subl ra b rc => Sys2Proof.Machine.execS8subl ra b rc s
  | .cmpult ra b rc => Sys2Proof.Machine.execCmpult ra b rc s
  | .addq ra b rc => Sys2Proof.Machine.execAddq ra b rc s
  | .s4addq ra b rc => Sys2Proof.Machine.execS4addq ra b rc s
  | .subq ra b rc => Sys2Proof.Machine.execSubq ra b rc s
  | .s4subq ra b rc => Sys2Proof.Machine.execS4subq ra b rc s
  | .cmpeq ra b rc => Sys2Proof.Machine.execCmpeq ra b rc s
  | .s8addq ra b rc => Sys2Proof.Machine.execS8addq ra b rc s
  | .s8subq ra b rc => Sys2Proof.Machine.execS8subq ra b rc s
  | .cmpule ra b rc => Sys2Proof.Machine.execCmpule ra b rc s
  | .addlV ra b rc => Sys2Proof.Machine.execAddlV ra b rc s
  | .sublV ra b rc => Sys2Proof.Machine.execSublV ra b rc s
  | .cmplt ra b rc => Sys2Proof.Machine.execCmplt ra b rc s
  | .addqV ra b rc => Sys2Proof.Machine.execAddqV ra b rc s
  | .subqV ra b rc => Sys2Proof.Machine.execSubqV ra b rc s
  | .cmple ra b rc => Sys2Proof.Machine.execCmple ra b rc s
  | .and ra b rc => Sys2Proof.Machine.execAnd ra b rc s
  | .bic ra b rc => Sys2Proof.Machine.execBic ra b rc s
  | .cmovlbs ra b rc => Sys2Proof.Machine.execCmovlbs ra b rc s
  | .cmovlbc ra b rc => Sys2Proof.Machine.execCmovlbc ra b rc s
  | .bis ra b rc => Sys2Proof.Machine.execBis ra b rc s
  | .cmoveq ra b rc => Sys2Proof.Machine.execCmoveq ra b rc s
  | .cmovne ra b rc => Sys2Proof.Machine.execCmovne ra b rc s
  | .ornot ra b rc => Sys2Proof.Machine.execOrnot ra b rc s
  | .xor ra b rc => Sys2Proof.Machine.execXor ra b rc s
  | .cmovlt ra b rc => Sys2Proof.Machine.execCmovlt ra b rc s
  | .cmovge ra b rc => Sys2Proof.Machine.execCmovge ra b rc s
  | .eqv ra b rc => Sys2Proof.Machine.execEqv ra b rc s
  | .amask b rc => Sys2Proof.Machine.execAmask b rc s
  | .cmovle ra b rc => Sys2Proof.Machine.execCmovle ra b rc s
  | .cmovgt ra b rc => Sys2Proof.Machine.execCmovgt ra b rc s
  | .implver rc => Sys2Proof.Machine.execImplver rc s
  | .mskbl ra b rc => Sys2Proof.Machine.execMskbl ra b rc s
  | .extbl ra b rc => Sys2Proof.Machine.execExtbl ra b rc s
  | .insbl ra b rc => Sys2Proof.Machine.execInsbl ra b rc s
  | .mskwl ra b rc => Sys2Proof.Machine.execMskwl ra b rc s
  | .extwl ra b rc => Sys2Proof.Machine.execExtwl ra b rc s
  | .inswl ra b rc => Sys2Proof.Machine.execInswl ra b rc s
  | .mskll ra b rc => Sys2Proof.Machine.execMskll ra b rc s
  | .extll ra b rc => Sys2Proof.Machine.execExtll ra b rc s
  | .insll ra b rc => Sys2Proof.Machine.execInsll ra b rc s
  | .zap ra b rc => Sys2Proof.Machine.execZap ra b rc s
  | .zapnot ra b rc => Sys2Proof.Machine.execZapnot ra b rc s
  | .mskql ra b rc => Sys2Proof.Machine.execMskql ra b rc s
  | .srl ra b rc => Sys2Proof.Machine.execSrl ra b rc s
  | .extql ra b rc => Sys2Proof.Machine.execExtql ra b rc s
  | .sll ra b rc => Sys2Proof.Machine.execSll ra b rc s
  | .insql ra b rc => Sys2Proof.Machine.execInsql ra b rc s
  | .sra ra b rc => Sys2Proof.Machine.execSra ra b rc s
  | .mskwh ra b rc => Sys2Proof.Machine.execMskwh ra b rc s
  | .inswh ra b rc => Sys2Proof.Machine.execInswh ra b rc s
  | .extwh ra b rc => Sys2Proof.Machine.execExtwh ra b rc s
  | .msklh ra b rc => Sys2Proof.Machine.execMsklh ra b rc s
  | .inslh ra b rc => Sys2Proof.Machine.execInslh ra b rc s
  | .extlh ra b rc => Sys2Proof.Machine.execExtlh ra b rc s
  | .mskqh ra b rc => Sys2Proof.Machine.execMskqh ra b rc s
  | .insqh ra b rc => Sys2Proof.Machine.execInsqh ra b rc s
  | .extqh ra b rc => Sys2Proof.Machine.execExtqh ra b rc s
  | .mull ra b rc => Sys2Proof.Machine.execMull ra b rc s
  | .mulq ra b rc => Sys2Proof.Machine.execMulq ra b rc s
  | .umulh ra b rc => Sys2Proof.Machine.execUmulh ra b rc s
  | .mullV ra b rc => Sys2Proof.Machine.execMullV ra b rc s
  | .mulqV ra b rc => Sys2Proof.Machine.execMulqV ra b rc s
  | .itfp fa fb fc fn => Sys2Proof.Machine.execItfp fa fb fc fn s
  | .fltv fa fb fc fn => Sys2Proof.Machine.execFltv fa fb fc fn s
  | .flti fa fb fc fn => Sys2Proof.Machine.execFlti fa fb fc fn s
  | .fltl fa fb fc fn => Sys2Proof.Machine.execFltl fa fb fc fn s
  | .trapb => Sys2Proof.Machine.execTrapb s
  | .excb => Sys2Proof.Machine.execExcb s
  | .mb => Sys2Proof.Machine.execMb s
  | .wmb => Sys2Proof.Machine.execWmb s
  | .fetch rb => Sys2Proof.Machine.execFetch rb s
  | .fetchM rb => Sys2Proof.Machine.execFetchM rb s
  | .rpcc ra => Sys2Proof.Machine.execRpcc ra s
  | .rc ra => Sys2Proof.Machine.execRc ra s
  | .ecb rb => Sys2Proof.Machine.execEcb rb s
  | .rs ra => Sys2Proof.Machine.execRs ra s
  | .wh64 rb => Sys2Proof.Machine.execWh64 rb s
  | .hwMfpr ra index => Sys2Proof.Machine.execHwMfpr ra index s
  | .jmp ra rb => Sys2Proof.Machine.execJmp ra rb s
  | .jsr ra rb => Sys2Proof.Machine.execJsr ra rb s
  | .ret ra rb => Sys2Proof.Machine.execRet ra rb s
  | .jsrCoroutine ra rb => Sys2Proof.Machine.execJsrCoroutine ra rb s
  | .hwLd ra rb q disp => Sys2Proof.Machine.execHwLd ra rb q disp s
  | .sextb b rc => Sys2Proof.Machine.execSextb b rc s
  | .sextw b rc => Sys2Proof.Machine.execSextw b rc s
  | .hwMtpr rb index => Sys2Proof.Machine.execHwMtpr rb index s
  | .hwRei rs mbz => Sys2Proof.Machine.execHwRei rs mbz s
  | .hwSt ra rb q disp => Sys2Proof.Machine.execHwSt ra rb q disp s
  | .ldf fa rb disp => Sys2Proof.Machine.execLdf fa rb disp s
  | .ldg fa rb disp => Sys2Proof.Machine.execLdg fa rb disp s
  | .lds fa rb disp => Sys2Proof.Machine.execLds fa rb disp s
  | .ldt fa rb disp => Sys2Proof.Machine.execLdt fa rb disp s
  | .stf fa rb disp => Sys2Proof.Machine.execStf fa rb disp s
  | .stg fa rb disp => Sys2Proof.Machine.execStg fa rb disp s
  | .sts fa rb disp => Sys2Proof.Machine.execSts fa rb disp s
  | .stt fa rb disp => Sys2Proof.Machine.execStt fa rb disp s
  | .ldl ra rb disp => Sys2Proof.Machine.execLdl ra rb disp s
  | .ldq ra rb disp => Sys2Proof.Machine.execLdq ra rb disp s
  | .ldlL ra rb disp => Sys2Proof.Machine.execLdlL ra rb disp s
  | .ldqL ra rb disp => Sys2Proof.Machine.execLdqL ra rb disp s
  | .stl ra rb disp => Sys2Proof.Machine.execStl ra rb disp s
  | .stq ra rb disp => Sys2Proof.Machine.execStq ra rb disp s
  | .stlC ra rb disp => Sys2Proof.Machine.execStlC ra rb disp s
  | .stqC ra rb disp => Sys2Proof.Machine.execStqC ra rb disp s
  | .br ra disp => Sys2Proof.Machine.execBr ra disp s
  | .fbeq fa disp => Sys2Proof.Machine.execFbeq fa disp s
  | .fblt fa disp => Sys2Proof.Machine.execFblt fa disp s
  | .fble fa disp => Sys2Proof.Machine.execFble fa disp s
  | .bsr ra disp => Sys2Proof.Machine.execBsr ra disp s
  | .fbne fa disp => Sys2Proof.Machine.execFbne fa disp s
  | .fbge fa disp => Sys2Proof.Machine.execFbge fa disp s
  | .fbgt fa disp => Sys2Proof.Machine.execFbgt fa disp s
  | .blbc ra disp => Sys2Proof.Machine.execBlbc ra disp s
  | .beq ra disp => Sys2Proof.Machine.execBeq ra disp s
  | .blt ra disp => Sys2Proof.Machine.execBlt ra disp s
  | .ble ra disp => Sys2Proof.Machine.execBle ra disp s
  | .blbs ra disp => Sys2Proof.Machine.execBlbs ra disp s
  | .bne ra disp => Sys2Proof.Machine.execBne ra disp s
  | .bge ra disp => Sys2Proof.Machine.execBge ra disp s
  | .bgt ra disp => Sys2Proof.Machine.execBgt ra disp s

end Sys2Proof.Machine
end

