-- ==== Sys2Proof/Machine/Step.lean ====
section
/-! DEFINITION. The step of the machine the host runs, under NATIVE in the standard configuration, and the placing of an
instruction where the next step fetches it. -/

namespace Sys2Proof.Machine

/-- `Step(irq)` of R130 with the parameters at their defaults (log entries 2, 10). -/
def step (s : State) : Host.Outcome State Fault Refusal := stepUnder nativeSetup s

/-- A state whose next step fetches: the request lines are dropped when an interrupt would be taken, and when the fetch
address is not a byte of RAM the core is put where it is after reset, in firmware mode at address 0. -/
def State.readyToFetch (s : State) : State × PhysAddr :=
  let s1 := if pendingLevel nativeSetup s = 0 then s else { s with irq := 0 }
  match fetchAddr nativeSetup s1 with
  | .ok pa _ => if isRam nativeSetup pa then (s1, pa) else ({ s1 with palMode := true, pc := 0 }, 0)
  | .raised _ _ _ _ => ({ s1 with palMode := true, pc := 0 }, 0)
  | .stopped _ => ({ s1 with palMode := true, pc := 0 }, 0)

/-- The instruction with the bits `w` (zero from `nbits` up) stored where the next step fetches (log entry 3). -/
def State.withFetchWord (s : State) (nbits w : Nat) : State :=
  s.readyToFetch.1.loadImage s.readyToFetch.2.toNat (bytesOfNat 4 (w % 2 ^ nbits))

end Sys2Proof.Machine
end

