-- ==== Sys2Proof/Safety.lean ====
section
/-! DEFINITION. The vocabulary of the statements: what a step leaves unchanged, how an instruction completes or traps,
and the invariant of the machine between steps. -/

namespace Sys2Proof.Machine

/-! ### Words and bytes, by plain arithmetic -/

/-- The number a list of bytes stands for, the byte at the lowest address first (R70). -/
def natOfBytes : List Byte → Nat
  | [] => 0
  | b :: bs => b.toNat + 256 * natOfBytes bs

/-- A number zero-extended to a register. -/
def zeroExtended (n : Nat) : Word := BitVec.ofNat 64 n

/-- The low long of a number, sign-extended to a register (R9). -/
def longExtended (n : Int) : Word := (BitVec.ofInt 32 n).signExtend 64

/-- The byte position `b = Rbv[2:0]` of the extract, insert and mask forms (R261). -/
def bytePosition (y : Word) : Nat := y.toNat % 8

/-! ### How an instruction ends -/

/-- The instruction gives a next state, and it is as described. -/
def EndsWith (i : Instr) (s : State) (post : State → Prop) : Prop := ∃ t, exec i s = .next t ∧ post t

/-- Every byte of memory reads as before. -/
def MemoryKept (s t : State) : Prop := ∀ a, Memory.readByte t.mem a = Memory.readByte s.mem a

/-- Nothing changes but `PC`, which is the next instruction's (R23). -/
def OnlyAdvances (s t : State) : Prop := t = { s with pc := alignPc (s.pc + 4) } ∧ MemoryKept s t

/-- The integer file holds `v` in register `rc` and is unchanged elsewhere; register 31 reads 0 (R10, R22). -/
def IntFile (s t : State) (rc : Reg) (v : Word) : Prop :=
  ∀ r, t.readInt r = if r = 31 then 0 else if r = rc then v else s.readInt r

/-- The floating file holds `v` in register `fc` and is unchanged elsewhere; register 31 reads 0 (R10, R22). -/
def FpFile (s t : State) (fc : Reg) (v : Word) : Prop :=
  ∀ r, t.readFp r = if r = 31 then 0 else if r = fc then v else s.readFp r

/-- One integer register is written and `PC` advances; nothing else changes. -/
def WritesInt (s t : State) (rc : Reg) (v : Word) : Prop :=
  t = { s with regs := t.regs, pc := alignPc (s.pc + 4) } ∧ IntFile s t rc v ∧ MemoryKept s t

/-- One floating register is written and `PC` advances; nothing else changes. -/
def WritesFp (s t : State) (fc : Reg) (v : Word) : Prop :=
  t = { s with fregs := t.fregs, pc := alignPc (s.pc + 4) } ∧ FpFile s t fc v ∧ MemoryKept s t

/-- The instruction completes, having written one integer register. -/
def IntResult (i : Instr) (s : State) (rc : Reg) (v : Word) : Prop := EndsWith i s fun t => WritesInt s t rc v

/-- The history queue keeps its size; with its pointer in range, the pointer goes down by one and wraps, the latest entry is
the pushed value and the older ones move down, the oldest falling out (R24). -/
def Pushed (s t : State) (v : Word) : Prop :=
  t.pcq.length = s.pcq.length ∧
  (s.pcqP < s.pcq.length →
    t.pcqP = (if s.pcqP = 0 then s.pcq.length - 1 else s.pcqP - 1) ∧ t.pcqEntry 0 = v ∧
      ∀ k, k + 1 < s.pcq.length → t.pcqEntry (k + 1) = s.pcqEntry k)

/-- A taken branch without a link: the queue and `PC` change and nothing else does (R301, R302). -/
def Transfers (s t : State) (target : Word) : Prop :=
  t = { s with pcq := t.pcq, pcqP := t.pcqP, pc := alignPc target } ∧ Pushed s t s.pc ∧ MemoryKept s t

/-- A transfer that also writes the address of the next instruction to the link register (R300, R319). -/
def TransfersWithLink (s t : State) (link : Reg) (target : Word) : Prop :=
  t = { s with regs := t.regs, pcq := t.pcq, pcqP := t.pcqP, pc := alignPc target } ∧
    Pushed s t s.pc ∧ IntFile s t link (s.pc + 4) ∧ MemoryKept s t

/-- The bytes from `pa` up hold the low bytes of `v`, and every other byte reads as before (R75). -/
def StoresAt (s t : State) (pa n : Nat) (v : Word) : Prop :=
  ∀ a, Memory.readByte t.mem a =
    if pa ≤ a ∧ a < pa + n then v.extractLsb' (8 * (a - pa)) 8 else Memory.readByte s.mem a

/-- The instruction is abandoned with a fault: firmware is entered at the fault's offset and resumes at the
instruction itself (R412, R414, R422); nothing else of it happened. -/
def Faults (i : Instr) (s : State) (k : FaultKind) (va : Word) (m : Mode) (before : State) : Prop :=
  exec i s = .next (nativeException k va m before.pc before)

/-- The fault a legality test raises: reserved-instruction, address 0, the current mode (R155, R380). -/
def RaisesReserved (i : Instr) (s : State) : Prop := Faults i s .reservedInstruction 0 s.cm s

/-- The fault of an internal register that is not there, or not in that direction (R50). -/
def RaisesReservedOperand (i : Instr) (s : State) : Prop := Faults i s .reservedOperand 0 s.cm s

/-- The fault of a floating instruction while floating point is disabled (R354). -/
def RaisesFpDisabled (i : Instr) (s : State) : Prop := Faults i s .floatingDisabled 0 s.cm s

/-! ### Rules as statements about one constructor -/

/-- Every word with this opcode is this instruction. -/
def HasOpcode (op : BitVec 6) (mk : BitVec 32 → Instr) : Prop :=
  ∀ w : BitVec 32, w.extractLsb' 26 6 = op → decode w = .ok (mk w)

/-- The memory format (R133): `Ra` in bits 25:21, `Rb` in 20:16, the displacement in 15:0. -/
def MemFormat (op : BitVec 6) (mk : Reg → Reg → BitVec 16 → Instr) : Prop :=
  HasOpcode op fun w => mk (w.extractLsb' 21 5) (w.extractLsb' 16 5) (w.extractLsb' 0 16)

/-- The branch format (R134): `Ra` in bits 25:21, the displacement in 20:0. -/
def BraFormat (op : BitVec 6) (mk : Reg → BitVec 21 → Instr) : Prop :=
  HasOpcode op fun w => mk (w.extractLsb' 21 5) (w.extractLsb' 0 21)

/-- The operate format (R135, R141): the function in bits 11:5; bit 12 selects the literal in bits 20:13. -/
def OprFormat (op : BitVec 6) (fn : BitVec 7) (mk : Reg → Operand → Reg → Instr) : Prop :=
  ∀ w : BitVec 32, w.extractLsb' 26 6 = op → w.extractLsb' 5 7 = fn →
    decode w = .ok (mk (w.extractLsb' 21 5)
      (if w.getLsbD 12 then .lit (w.extractLsb' 13 8) else .reg (w.extractLsb' 16 5)) (w.extractLsb' 0 5))

/-- The memory-function format of opcode 0x18 (R138, R147): the whole 16-bit function is compared. -/
def MfcFormat (fn : BitVec 16) (mk : Reg → Reg → Instr) : Prop :=
  ∀ w : BitVec 32, w.extractLsb' 26 6 = 0x18 → w.extractLsb' 0 16 = fn →
    decode w = .ok (mk (w.extractLsb' 21 5) (w.extractLsb' 16 5))

/-- An operate instruction whose result is `f` of its sources (R141). -/
def OperateRule (op : BitVec 6) (fn : BitVec 7) (mk : Reg → Operand → Reg → Instr) (f : Word → Word → Word) : Prop :=
  OprFormat op fn mk ∧ ∀ ra b rc s, s.trapSumm = 0 →
    IntResult (mk ra b rc) s rc (f (s.readInt ra) (operandValue s b))

/-- An operate instruction whose result is given byte by byte. -/
def ByteRule (op : BitVec 6) (fn : BitVec 7) (mk : Reg → Operand → Reg → Instr) (f : Word → Word → Nat → Byte) : Prop :=
  OprFormat op fn mk ∧ ∀ ra b rc s, s.trapSumm = 0 →
    ∃ v : Word, (∀ i < 8, v.extractLsb' (8 * i) 8 = f (s.readInt ra) (operandValue s b) i) ∧ IntResult (mk ra b rc) s rc v

/-- An operate instruction that traps on overflow (R202): the result is written in both cases; on overflow firmware is
entered at the trap entry with IOV and the destination's mask bit, resuming after the instruction. -/
def OverflowRule (op : BitVec 6) (fn : BitVec 7) (mk : Reg → Operand → Reg → Instr) (f : Word → Word → Word)
    (overflow : Word → Word → Prop) : Prop :=
  OprFormat op fn mk ∧ ∀ ra b rc s, s.trapSumm = 0 → s.trapMask = 0 →
    let x := s.readInt ra
    let y := operandValue s b
    (¬ overflow x y → IntResult (mk ra b rc) s rc (f x y)) ∧
    (overflow x y → ∃ done, WritesInt s done rc (f x y) ∧
      exec (mk ra b rc) s = .next (nativeTrap 0x40 (1#64 <<< rc.toNat) (alignPc (s.pc + 4)) done))

/-- A conditional move (R247). -/
def MoveRule (fn : BitVec 7) (mk : Reg → Operand → Reg → Instr) (test : Word → Prop) : Prop :=
  OprFormat 0x11 fn mk ∧ ∀ ra b rc s, s.trapSumm = 0 →
    (test (s.readInt ra) → IntResult (mk ra b rc) s rc (operandValue s b)) ∧
    (¬ test (s.readInt ra) → EndsWith (mk ra b rc) s (OnlyAdvances s))

/-- An integer conditional branch (R302). -/
def BranchRule (op : BitVec 6) (mk : Reg → BitVec 21 → Instr) (test : Word → Prop) : Prop :=
  BraFormat op mk ∧ ∀ ra disp s, s.trapSumm = 0 →
    (test (s.readInt ra) →
      EndsWith (mk ra disp) s fun t => Transfers s t (s.pc + 4 + BitVec.ofInt 64 (4 * disp.toInt))) ∧
    (¬ test (s.readInt ra) → EndsWith (mk ra disp) s (OnlyAdvances s))

/-- A floating conditional branch (44_control section 4, R354). -/
def FpBranchRule (op : BitVec 6) (mk : Reg → BitVec 21 → Instr) (test : Word → Prop) : Prop :=
  BraFormat op mk ∧ ∀ fa disp s,
    (s.fpen = false → RaisesFpDisabled (mk fa disp) s) ∧
    (s.fpen = true → s.trapSumm = 0 → test (s.readFp fa) →
      EndsWith (mk fa disp) s fun t => Transfers s t (s.pc + 4 + BitVec.ofInt 64 (4 * disp.toInt))) ∧
    (s.fpen = true → s.trapSumm = 0 → ¬ test (s.readFp fa) → EndsWith (mk fa disp) s (OnlyAdvances s))

/-- What an instruction that reads memory at `ea` does (R170): the alignment test, the physical address `place` gives, the
access, in this order. `done` describes the end, from the state the access leaves and the number read. -/
def ReadRule (i : Instr) (s : State) (ea : Word) (w : Width) (place : Result NativeState PhysAddr)
    (done : State → Nat → State → Prop) :
    Prop :=
  (¬ w.bytes ∣ ea.toNat → Faults i s .misalignedOperand ea s.cm s) ∧
  (w.bytes ∣ ea.toNat →
    (∀ k va m s', place = .raised k va m s' → Faults i s k va m s') ∧
    (∀ pa s', place = .ok pa s' → pa.toNat < nativeSetup.memSize →
      EndsWith i s (done s' (natOfBytes (Memory.readBytes s.mem pa.toNat w.bytes)))) ∧
    (∀ pa s', place = .ok pa s' → ¬ pa.toNat < nativeSetup.memSize →
      (∀ s'', askIo nativeSetup (.read pa w) s' = (.miss, s'') → exec i s = .fault .stopNxm) ∧
      (∀ v s'', askIo nativeSetup (.read pa w) s' = (.data v, s'') → EndsWith i s (done s'' (v.toNat % 256 ^ w.bytes)))))

/-- What an instruction that writes the low bytes of `v` at `ea` does (R170). `done` describes the end, from the state the
access leaves. -/
def WriteRule (i : Instr) (s : State) (ea : Word) (w : Width) (v : Word) (place : Result NativeState PhysAddr)
    (done : State → State → Prop) : Prop :=
  (¬ w.bytes ∣ ea.toNat → Faults i s .misalignedOperand ea s.cm s) ∧
  (w.bytes ∣ ea.toNat →
    (∀ k va m s', place = .raised k va m s' → Faults i s k va m s') ∧
    (∀ pa s', place = .ok pa s' → pa.toNat < nativeSetup.memSize →
      EndsWith i s fun t => StoresAt s t pa.toNat w.bytes v ∧ done { s' with mem := t.mem } t) ∧
    (∀ pa s', place = .ok pa s' → ¬ pa.toNat < nativeSetup.memSize →
      (∀ s'', askIo nativeSetup (.write pa w (w.trunc v)) s' = (.miss, s'') → exec i s = .fault .stopNxm) ∧
      (∀ d s'', askIo nativeSetup (.write pa w (w.trunc v)) s' = (.data d, s'') → EndsWith i s (done s''))))

/-- `ReadRule` at a virtual address under the current mode. -/
def VirtualReadRule (i : Instr) (s : State) (ea : Word) (w : Width) (done : State → Nat → State → Prop) : Prop :=
  ReadRule i s ea w (translate nativeSetup ea .read s.cm s) done

/-- `WriteRule` at a virtual address under the current mode. -/
def VirtualWriteRule (i : Instr) (s : State) (ea : Word) (w : Width) (v : Word) (done : State → State → Prop) : Prop :=
  WriteRule i s ea w v (translate nativeSetup ea .write s.cm s) done

/-- An integer load (R170 to R177): `extend` makes the register value of the number read. -/
def LoadRule (op : BitVec 6) (mk : Reg → Reg → BitVec 16 → Instr) (w : Width) (addr : Word → Word)
    (extend : Nat → Word) : Prop :=
  MemFormat op mk ∧ ∀ ra rb disp s, s.trapSumm = 0 →
    VirtualReadRule (mk ra rb disp) s (addr (effAddr s rb disp)) w
      fun s' n t => WritesInt s' t ra (extend n)

/-- A load-locked (R90): as the load, and `lock_flag` is set. -/
def LoadLockedRule (op : BitVec 6) (mk : Reg → Reg → BitVec 16 → Instr) (w : Width) (extend : Nat → Word) : Prop :=
  MemFormat op mk ∧ ∀ ra rb disp s, s.trapSumm = 0 →
    VirtualReadRule (mk ra rb disp) s (effAddr s rb disp) w
      fun s' n t => WritesInt { s' with lockFlag := true } t ra (extend n)

/-- An integer store (R170, R180 to R184). -/
def StoreRule (op : BitVec 6) (mk : Reg → Reg → BitVec 16 → Instr) (w : Width) (addr : Word → Word) : Prop :=
  MemFormat op mk ∧ ∀ ra rb disp s, s.trapSumm = 0 → Memory.wf s.mem = true →
    VirtualWriteRule (mk ra rb disp) s (addr (effAddr s rb disp)) w (s.readInt ra) OnlyAdvances

/-- A store-conditional (R91, R185): with `lock_flag` clear nothing is checked, translated or written. -/
def StoreConditionalRule (op : BitVec 6) (mk : Reg → Reg → BitVec 16 → Instr) (w : Width) : Prop :=
  MemFormat op mk ∧ ∀ ra rb disp s, s.trapSumm = 0 → Memory.wf s.mem = true →
    (s.lockFlag = true →
      VirtualWriteRule (mk ra rb disp) s (effAddr s rb disp) w (s.readInt ra)
        fun s' t => WritesInt { s' with lockFlag := false } t ra 1) ∧
    (s.lockFlag = false → IntResult (mk ra rb disp) s ra 0)

/-- A floating load (R356): `image` relates the number read to the register value. -/
def FpLoadRule (op : BitVec 6) (mk : Reg → Reg → BitVec 16 → Instr) (w : Width) (image : Nat → Word → Prop) : Prop :=
  MemFormat op mk ∧ ∀ fa rb disp s,
    (s.fpen = false → RaisesFpDisabled (mk fa rb disp) s) ∧
    (s.fpen = true → s.trapSumm = 0 →
      VirtualReadRule (mk fa rb disp) s (effAddr s rb disp) w
        fun s' n t => ∃ v, image n v ∧ WritesFp s' t fa v)

/-- A floating store (R356): `image` relates the register value to the datum stored. -/
def FpStoreRule (op : BitVec 6) (mk : Reg → Reg → BitVec 16 → Instr) (w : Width) (image : Word → Word → Prop) : Prop :=
  MemFormat op mk ∧ ∀ fa rb disp s,
    (s.fpen = false → RaisesFpDisabled (mk fa rb disp) s) ∧
    (s.fpen = true → s.trapSumm = 0 → Memory.wf s.mem = true → ∃ v, image (s.readFp fa) v ∧
      VirtualWriteRule (mk fa rb disp) s (effAddr s rb disp) w v OnlyAdvances)

/-- A floating operate instruction (R351, R355): each answer of the collaborator and what the core does with it. -/
def FpOperateRule (op : BitVec 6) (mk : Reg → Reg → Reg → BitVec 11 → Instr) : Prop :=
  (HasOpcode op fun w => mk (w.extractLsb' 21 5) (w.extractLsb' 16 5) (w.extractLsb' 0 5) (w.extractLsb' 5 11)) ∧
  ∀ fa fb fc fn s,
    (s.fpen = false → RaisesFpDisabled (mk fa fb fc fn) s) ∧
    (s.fpen = true → s.trapSumm = 0 → s.trapMask = 0 →
      match Config.fpOperate op fn (s.readFp fa) (s.readFp fb) s.fpcr with
      | .reserved => RaisesReserved (mk fa fb fc fn) s
      | .badOperand => RaisesReservedOperand (mk fa fb fc fn) s
      | .done write fpcr traps => ∃ done,
          (match write with
            | some v => WritesFp { s with fpcr := fpcr } done fc v
            | none => OnlyAdvances { s with fpcr := fpcr } done) ∧
          exec (mk fa fb fc fn) s = .next
            (if traps = 0 then done else nativeTrap traps (1#64 <<< (32 + fc.toNat)) (alignPc (s.pc + 4)) done))

/-- The physical address of `HW_LD` and `HW_ST` (R382): physical under PHYS; else translated, at `alt_mode` under ALT. -/
def hwPlace (q : HwQualifiers) (ea : Word) (acc : Access) (s : State) : Result NativeState PhysAddr :=
  if q.phys then .ok (BitVec.ofNat 64 (ea.toNat % 2 ^ 44)) s
  else translate nativeSetup ea acc (if q.alt then s.altMode else s.cm) s

/-- The bits of the hardware memory format (R139). -/
def HwmFormat (op : BitVec 6) (mk : Reg → Reg → HwQualifiers → BitVec 10 → Instr) : Prop :=
  HasOpcode op fun w => mk (w.extractLsb' 21 5) (w.extractLsb' 16 5)
    { phys := w.getLsbD 15, alt := w.getLsbD 14, mbz13 := w.getLsbD 13, quad := w.getLsbD 12, mbz11 := w.getLsbD 11,
      lock := w.getLsbD 10 } (w.extractLsb' 0 10)

/-! ### The internal-register map (R49) -/

/-- The column "Read returns" of the readable registers, but for `PAL_TEMPk` and `PCQk`; `n` holds the private ones. -/
def registerReads {π : Type} (n : NativeState) (s : State π) : List (BitVec 16 × Word) :=
  [(0x0000#16, s.excAddr), (0x0001, s.palBase),
    (0x0002, BitVec.ofNat 64 (s.sde.toNat + 2 * s.fpen.toNat + 4 * s.ispe.toNat + 8 * s.dspe.toNat)),
    (0x0003, BitVec.ofNat 64 s.cm.toNat), (0x0004, BitVec.ofNat 64 s.altMode.toNat),
    (0x0005, BitVec.ofNat 64 s.ipl.toNat), (0x0006, BitVec.ofNat 64 (2 * s.irq.toNat)),
    (0x0007, BitVec.ofNat 64 n.intId.toNat), (0x0008, BitVec.ofNat 64 n.excSum.toNat), (0x0009, n.excMask),
    (0x000A, BitVec.ofNat 64 (n.faultKind.toNat + 256 * n.faultMode.toNat)), (0x000B, n.faultVa),
    (0x000C, BitVec.ofNat 64 s.lockFlag.toNat), (0x000E, BitVec.ofNat 64 s.shdwActive.toNat),
    (0x0012, BitVec.ofNat 64 s.itlb.asn.toNat), (0x0022, BitVec.ofNat 64 s.dtlb.asn.toNat)]

/-- The indices that can be read (R49). -/
abbrev ReadableIndex (pcqSize : Nat) (index : BitVec 16) : Prop :=
  index.toNat ≤ 0x000C ∨ index ∈ [0x000E#16, 0x0012, 0x0022] ∨ (0x0040 ≤ index.toNat ∧ index.toNat < 0x0058) ∨
    (0x0100 ≤ index.toNat ∧ index.toNat < 0x0100 + pcqSize)

/-- The column "Write does" of the writable registers, but for `PAL_TEMPk` and the two loads of a table entry; `v` is the
value written and `n` holds the private registers. -/
def registerWrites {π : Type} (M : Setup π) (n : NativeState) (v : Word) (s : State π) : List (BitVec 16 × State π) :=
  let both := fun (op : Side → State π → State π) => op .data (op .instruction s)
  [(0x0000#16, { s with excAddr := v &&& ~~~2#64 }),
    (0x0001, { s with palBase := BitVec.ofNat 64 (v.toNat % 2 ^ M.paBits / 2 ^ 15 * 2 ^ 15) }),
    (0x0002, { s with sde := v.getLsbD 0, fpen := v.getLsbD 1, ispe := v.getLsbD 2, dspe := v.getLsbD 3 }),
    (0x0003, { s with cm := BitVec.ofNat 2 v.toNat }), (0x0004, { s with altMode := BitVec.ofNat 2 v.toNat }),
    (0x0005, { s with ipl := BitVec.ofNat 5 v.toNat }), (0x0008, s.setPrivate M { n with excSum := 0, excMask := 0 }),
    (0x000C, { s with lockFlag := v.getLsbD 0 }), (0x000F, s.setPrivate M { n with haltReq := true }),
    (0x0010, { s with itbTag := BitVec.ofNat 64 (v.toNat / 2 ^ 13 % 2 ^ M.vpnBits) }),
    (0x0020, { s with dtbTag := BitVec.ofNat 64 (v.toNat / 2 ^ 13 % 2 ^ M.vpnBits) }),
    (0x0012, setAsn .instruction (BitVec.ofNat 64 (v.toNat % 2 ^ M.asnBits)) s),
    (0x0022, setAsn .data (BitVec.ofNat 64 (v.toNat % 2 ^ M.asnBits)) s),
    (0x0013, invalidateSingle M .instruction v s), (0x0023, invalidateSingle M .data v s),
    (0x0014, invalidateAll .instruction false s), (0x0024, invalidateAll .data false s),
    (0x0015, invalidateAll .instruction true s), (0x0025, invalidateAll .data true s),
    (0x0030, both fun side => invalidateSingle M side v),
    (0x0031, both fun side => invalidateAll side false),
    (0x0032, both fun side => invalidateAll side true)]

/-- The indices that can be written (R49). -/
abbrev WritableIndex (index : BitVec 16) : Prop :=
  index.toNat ≤ 0x0005 ∨ index ∈ [0x0008#16, 0x000C, 0x000F] ∨ (0x0010 ≤ index.toNat ∧ index.toNat ≤ 0x0015) ∨
    (0x0020 ≤ index.toNat ∧ index.toNat ≤ 0x0025) ∨ (0x0030 ≤ index.toNat ∧ index.toNat ≤ 0x0032) ∨
    (0x0040 ≤ index.toNat ∧ index.toNat < 0x0058)

/-- `HW_MFPR` executes the read column of the map with the parameters `M` (R49, R50, R391). -/
def ReadsMap {π : Type} (M : Setup π) : Prop :=
  ∀ (ra : Reg) (index : BitVec 16) (s : State π),
    let n := s.privateRegisters M
    let raises := fun k => execUnder M (.hwMfpr ra index) s = dispatchFault M k 0 s.cm s
    (¬ (s.palMode = true ∨ s.cm = 0) → raises .reservedInstruction) ∧
    (s.palMode = true ∨ s.cm = 0 → s.trapSumm = 0 →
      (∀ p ∈ registerReads n s, execUnder M (.hwMfpr ra p.1) s = .next (s.writeInt ra p.2).advance) ∧
      (∀ k : Fin 24, execUnder M (.hwMfpr ra (BitVec.ofNat 16 (0x0040 + k))) s = .next (s.writeInt ra n.palTemp[k]).advance) ∧
      (∀ k, k < M.pcqSize → k < 0xFF00 →
        execUnder M (.hwMfpr ra (BitVec.ofNat 16 (0x0100 + k))) s = .next (s.writeInt ra (s.pcqEntry k)).advance) ∧
      (¬ ReadableIndex M.pcqSize index → raises .reservedOperand))

/-- `HW_MTPR` executes the write column of the map with the parameters `M` (R49, R50, R391). -/
def WritesMap {π : Type} (M : Setup π) : Prop :=
  ∀ (rb : Reg) (index : BitVec 16) (s : State π),
    let v := s.readInt rb
    let n := s.privateRegisters M
    let advanced := fun t : State π => { t with pc := alignPc (s.pc + 4) }
    let raises := fun k => execUnder M (.hwMtpr rb index) s = dispatchFault M k 0 s.cm s
    (¬ (s.palMode = true ∨ s.cm = 0) → raises .reservedInstruction) ∧
    (s.palMode = true ∨ s.cm = 0 → s.trapSumm = 0 →
      (∀ p ∈ registerWrites M n v s, execUnder M (.hwMtpr rb p.1) s = .next (advanced p.2)) ∧
      (∀ k : Fin 24, execUnder M (.hwMtpr rb (BitVec.ofNat 16 (0x0040 + k))) s =
        .next (advanced (s.setPrivate M { n with palTemp := n.palTemp.set k v }))) ∧
      (∀ p ∈ [(0x0011#16, Side.instruction, s.itbTag), (0x0021, .data, s.dtbTag)],
        (∀ e s', tlbLoad M p.2.1 p.2.2 v s = .ok e s' → execUnder M (.hwMtpr rb p.1) s = .next (advanced s')) ∧
        (∀ f, tlbLoad M p.2.1 p.2.2 v s = .stopped f → execUnder M (.hwMtpr rb p.1) s = .fault f)) ∧
      (¬ WritableIndex index → raises .reservedOperand))

/-! ### Floating memory images (R357 to R367) -/

/-- `MAP_F` (R357). -/
def exponentF (e : Nat) : Nat := if e = 0 then 0 else if 128 ≤ e then 0x400 + e % 128 else 0x380 + e % 128

/-- `MAP_S` (R357). -/
def exponentS (e : Nat) : Nat := if e = 255 then 0x7FF else exponentF e

/-- `LDF`'s register value of a 32-bit datum (R360). -/
def LegacySingle (m v : Word) : Prop :=
  v.extractLsb' 63 1 = m.extractLsb' 15 1 ∧ (v.extractLsb' 52 11).toNat = exponentF (m.extractLsb' 7 8).toNat ∧
    v.extractLsb' 45 7 = m.extractLsb' 0 7 ∧ v.extractLsb' 29 16 = m.extractLsb' 16 16 ∧ v.extractLsb' 0 29 = 0

/-- `LDS`'s register value of a 32-bit datum (R362). -/
def StandardSingle (m v : Word) : Prop :=
  v.extractLsb' 63 1 = m.extractLsb' 31 1 ∧ (v.extractLsb' 52 11).toNat = exponentS (m.extractLsb' 23 8).toNat ∧
    v.extractLsb' 29 23 = m.extractLsb' 0 23 ∧ v.extractLsb' 0 29 = 0

/-- The word reversal of `LDG` and `STG` (R361, R365). -/
def WordsReversed (m v : Word) : Prop := ∀ i < 4, v.extractLsb' (16 * i) 16 = m.extractLsb' (48 - 16 * i) 16

/-- `STF`'s datum of a register value (R364). -/
def LegacyImage (r v : Word) : Prop :=
  v.extractLsb' 15 1 = r.extractLsb' 63 1 ∧ v.extractLsb' 14 1 = r.extractLsb' 62 1 ∧
    v.extractLsb' 7 7 = r.extractLsb' 52 7 ∧ v.extractLsb' 0 7 = r.extractLsb' 45 7 ∧
    v.extractLsb' 16 16 = r.extractLsb' 29 16

/-- `STS`'s datum of a register value (R366). -/
def StandardImage (r v : Word) : Prop :=
  v.extractLsb' 30 2 = r.extractLsb' 62 2 ∧ v.extractLsb' 0 30 = r.extractLsb' 29 30

/-! ### The invariant between steps -/

/-- A valid entry is as `TlbLoad` builds it (R44, R110): its mask is that of its granularity hint, the wildcarded bits of
its tag and frame are zero, and its fields have their widths. -/
structure TlbEntry.Consistent (c : Config) (e : TlbEntry) : Prop where
  mask : e.ghMask = Sys2Proof.Machine.ghMask (e.pte.extractLsb' 5 2)
  wild : e.tag &&& e.ghMask = 0 ∧ e.pfn &&& e.ghMask = 0
  widths : e.tag.toNat < 2 ^ c.vpnBits ∧ e.pfn.toNat < 2 ^ c.pfnBits ∧ e.asn.toNat < 2 ^ c.asnBits

/-- A table between steps: its slots, the pointer in range (R114), consistent entries, global entries in the current ASN
(R105, R111), and a mini-TLB that copies an entry of the table which matches (R46, R104). -/
structure Tlb.Consistent (c : Config) (size : Nat) (t : Tlb) : Prop where
  slots : t.slots.length = size
  pointer : t.nlu < size
  asn : t.asn.toNat < 2 ^ c.asnBits
  entries : ∀ e, some e ∈ t.slots → e.Consistent c
  globals : ∀ e, some e ∈ t.slots → pteGlobal e.pte = true → e.asn = t.asn
  mini : ∀ vpn e, t.mini = some (vpn, e) → some e ∈ t.slots ∧ e.asn = t.asn ∧ e.covers vpn = true

/-- What holds between steps of the machine with the parameters `M`. -/
structure Inv {π : Type} (M : Setup π) (s : State π) : Prop where
  /-- `PC[1:0]` is zero (R23). -/
  pc : s.pc.extractLsb' 0 2 = 0
  /-- The history queue has its size and its pointer is in range (R24). -/
  history : s.pcq.length = M.pcqSize ∧ s.pcqP < M.pcqSize
  /-- `pal_base[14:0]` is zero and `pal_base` is `PA_BITS` wide (R35). -/
  palBase : s.palBase.extractLsb' 0 15 = 0 ∧ s.palBase.toNat < 2 ^ M.paBits
  /-- Bit 1 of `exc_addr` is zero (R34). -/
  excAddr : s.excAddr.getLsbD 1 = false
  /-- No trap is pending between steps (R40, R426). -/
  traps : s.trapSumm = 0 ∧ s.trapMask = 0
  /-- No halt request is pending between steps (R447). -/
  halt : (s.privateRegisters M).haltReq = false
  /-- Memory is in canonical form. -/
  memory : Memory.wf s.mem = true
  /-- The tag latches are `VPN_BITS` wide (R47). -/
  tags : s.itbTag.toNat < 2 ^ M.vpnBits ∧ s.dtbTag.toNat < 2 ^ M.vpnBits
  itlb : s.itlb.Consistent M.toConfig M.itlbSize
  dtlb : s.dtlb.Consistent M.toConfig M.dtlbSize

/-! ### What only firmware may change -/

/-- The registers and tables that only firmware writes (R30 to R42, R45, R47). -/
structure FirmwareStateKept (s t : State) : Prop where
  cm : t.cm = s.cm
  ipl : t.ipl = s.ipl
  fpen : t.fpen = s.fpen
  palBase : t.palBase = s.palBase
  sde : t.sde = s.sde
  superpages : t.ispe = s.ispe ∧ t.dspe = s.dspe
  altMode : t.altMode = s.altMode
  palTemp : t.ps.palTemp = s.ps.palTemp
  tags : t.itbTag = s.itbTag ∧ t.dtbTag = s.dtbTag
  itlb : t.itlb.slots = s.itlb.slots ∧ t.itlb.nlu = s.itlb.nlu ∧ t.itlb.asn = s.itlb.asn
  dtlb : t.dtlb.slots = s.dtlb.slots ∧ t.dtlb.nlu = s.dtlb.nlu ∧ t.dtlb.asn = s.dtlb.asn

/-- The entry offsets of R443. -/
def entryOffsets : List (BitVec 15) :=
  [0x0080, 0x0100, 0x0180, 0x0200, 0x0300, 0x0380, 0x0480, 0x0500, 0x0580, 0x0600] ++
    ((List.range 128).map fun n => BitVec.ofNat 15 (0x2000 + 64 * n)) ++
    (List.range 128).map fun n => BitVec.ofNat 15 (0x4000 + 64 * n)

end Sys2Proof.Machine
end

