-- ==== Sys2Proof/Certificates/Slice0/Obligations.lean ====
section
/-! DEFINITION. The statements for the provers. Rule numbers are those of spec/; the vocabulary is Safety.lean's. -/

open Sys2Proof Sys2Proof.Machine

/-! ### Encoding (30_encoding) -/

/-- Decoding the encoder's word gives the instruction back, for every instruction and operand (R132 to R150). -/
def Obligations.DecodeEncodeRoundTrip : Prop := ∀ i : Instr, decode (encode i) = .ok i

/-- A word that decodes is the encoder's word of what it decodes to, up to the bits R156 says are ignored. -/
def Obligations.EncodeRecoversWord : Prop :=
  ∀ (w : BitVec 32) (i : Instr), decode w = .ok i →
    encode i &&& ~~~ignoredBits i = w &&& ~~~ignoredBits i

/-- The encodings that raise reserved-instruction (R155), and the seven reserved opcodes (R390); the all-zero word is not
one of them. -/
def Obligations.ReservedEncodings : Prop :=
  (∀ (w : BitVec 32) (s : State),
    let op := (w.extractLsb' 26 6).toNat
    let fn := (w.extractLsb' 5 7).toNat
    let user := s.palMode = false ∧ s.cm ≠ 0
    ((1 ≤ op ∧ op ≤ 7) ∨
      (op = 0x10 ∧ fn ∉ [0x00, 0x02, 0x09, 0x0B, 0x0F, 0x12, 0x1B, 0x1D, 0x20, 0x22, 0x29, 0x2B, 0x2D, 0x32, 0x3B,
        0x3D, 0x40, 0x49, 0x4D, 0x60, 0x69, 0x6D]) ∨
      (op = 0x11 ∧ fn ∉ [0x00, 0x08, 0x14, 0x16, 0x20, 0x24, 0x26, 0x28, 0x40, 0x44, 0x46, 0x48, 0x61, 0x64, 0x66,
        0x6C]) ∨
      (op = 0x12 ∧ fn ∉ [0x02, 0x06, 0x0B, 0x12, 0x16, 0x1B, 0x22, 0x26, 0x2B, 0x30, 0x31, 0x32, 0x34, 0x36, 0x39,
        0x3B, 0x3C, 0x52, 0x57, 0x5A, 0x62, 0x67, 0x6A, 0x72, 0x77, 0x7A]) ∨
      (op = 0x13 ∧ fn ∉ [0x00, 0x20, 0x30, 0x40, 0x60]) ∨
      (op = 0x1C ∧ fn ∉ [0x00, 0x01]) ∨
      (op = 0x18 ∧ (w.extractLsb' 0 16).toNat ∉ [0x0000, 0x0400, 0x4000, 0x4400, 0x8000, 0xA000, 0xC000, 0xE000,
        0xE800, 0xF000, 0xF800]) ∨
      (0x14 ≤ op ∧ op ≤ 0x17 ∧ s.fpen = true ∧
        Config.fpOperate (w.extractLsb' 26 6) (w.extractLsb' 5 11) (s.readFp (w.extractLsb' 21 5))
          (s.readFp (w.extractLsb' 16 5)) s.fpcr = .reserved) ∨
      (op = 0 ∧ w.extractLsb' 8 18 ≠ 0) ∨
      (op = 0 ∧ w.getLsbD 7 = false ∧ user) ∨
      (op ∈ [0x19, 0x1B, 0x1D, 0x1E, 0x1F] ∧ user) ∨
      (op ∈ [0x1B, 0x1F] ∧ (w.getLsbD 13 = true ∨ w.getLsbD 11 = true)) ∨
      (op = 0x1E ∧ w.extractLsb' 0 15 ≠ 0)) →
    runWord nativeSetup w s = .next (nativeException .reservedInstruction 0 s.cm s.pc s)) ∧
  (∀ s, RaisesReserved .opc01 s ∧ RaisesReserved .opc02 s ∧ RaisesReserved .opc03 s ∧ RaisesReserved .opc04 s ∧
    RaisesReserved .opc05 s ∧ RaisesReserved .opc06 s ∧ RaisesReserved .opc07 s) ∧
  decode 0 = .ok (.callPal 0 false 0)

/-- Words of the spec's own examples decode to the instructions they stand for. -/
def Obligations.DecodedWords : Prop :=
  decode 0x40220003 = .ok (.addl 1 (.reg 2) 3) ∧ decode 0x40211403 = .ok (.addq 1 (.lit 8) 3) ∧
  decode 0x44220483 = .ok (.cmoveq 1 (.reg 2) 3) ∧ decode 0x4420F483 = .ok (.cmoveq 1 (.lit 7) 3) ∧
  decode 0x4827F783 = .ok (.sra 1 (.lit 63) 3) ∧ decode 0x4C220C03 = .ok (.mulqV 1 (.reg 2) 3) ∧
  decode 0x2022FFF8 = .ok (.lda 1 2 0xFFF8) ∧ decode 0xA4220008 = .ok (.ldq 1 2 8) ∧
  decode 0xBC220000 = .ok (.stqC 1 2 0) ∧ decode 0xC03FFFFE = .ok (.br 1 0x1FFFFE) ∧
  decode 0x6BFA8000 = .ok (.ret 31 26) ∧ decode 0x63FF4400 = .ok .wmb ∧
  decode 0x58221403 = .ok (.flti 1 2 3 0x0A0) ∧ decode 0x88220008 = .ok (.lds 1 2 8) ∧
  decode 0x00000083 = .ok (.callPal 0 true 3) ∧ decode 0x77E10002 = .ok (.hwMtpr 1 0x0002) ∧
  decode 0x7BFF8000 = .ok (.hwRei true 0) ∧ decode 0x04000000 = .ok .opc01 ∧
  decode 0x6C2253F8 = .ok (.hwLd 1 2
    { phys := false, alt := true, mbz13 := false, quad := true, mbz11 := false, lock := false } 0x3F8)

/-! ### The step (30_encoding R130, R131; 60_exceptions) -/

/-- With no interrupt to take, a step is the fetch, the decoding and the meaning of the instruction decoded, then the end
of the step; a fetch fault and a word that is no instruction enter firmware instead (R130). -/
def Obligations.StepRunsDecodedInstruction : Prop :=
  ∀ s : State, pendingLevel nativeSetup s = 0 →
    (∀ w s' i, fetchWord nativeSetup s = .ok w s' → decode w = .ok i →
      (∀ t, exec i s' = .next t → step s = .next (t.endStep nativeSetup)) ∧ (∀ f, exec i s' = .fault f → step s = .fault f)) ∧
    (∀ w s' e, fetchWord nativeSetup s = .ok w s' → decode w = .error e →
      step s = .next ((nativeException .reservedInstruction 0 s'.cm s'.pc s').endStep nativeSetup)) ∧
    (∀ k va m s', fetchWord nativeSetup s = .raised k va m s' → step s = .next ((nativeException k va m s'.pc s').endStep nativeSetup)) ∧
    (∀ f, fetchWord nativeSetup s = .stopped f → step s = .fault f) ∧
    (∀ t : State, t.endStep nativeSetup =
      { t with
        ps := { t.ps with haltReq := false }
        report := if t.ps.haltReq then .haltRequested else .running
        irq := t.irqNext.headD t.irq
        irqNext := t.irqNext.tail })

/-- The fetch: physical and free of faults in firmware mode, else translated on the instruction side under the current
mode; the word is read little-endian (R131). -/
def Obligations.FetchTranslatesOutsideFirmware : Prop :=
  ∀ s : State,
    (s.palMode = true → s.pc.toNat % 2 ^ 44 < nativeSetup.memSize →
      fetchWord nativeSetup s = .ok (BitVec.ofNat 32 (natOfBytes (Memory.readBytes s.mem (s.pc.toNat % 2 ^ 44) 4))) s) ∧
    (s.palMode = true → ∀ k va m s', fetchWord nativeSetup s ≠ .raised k va m s') ∧
    (s.palMode = false → ∀ pa s', translate nativeSetup s.pc .execute s.cm s = .ok pa s' → pa.toNat < nativeSetup.memSize →
      fetchWord nativeSetup s = .ok (BitVec.ofNat 32 (natOfBytes (Memory.readBytes s.mem pa.toNat 4))) s') ∧
    (s.palMode = false → ∀ k va m s', translate nativeSetup s.pc .execute s.cm s = .raised k va m s' →
      fetchWord nativeSetup s = .raised k va m s' ∧ va = s.pc ∧ m = s.cm ∧
        k ∈ [FaultKind.tlbMiss .execute, .faultOnReference .execute, .accessViolation .execute,
          .translationNotValid .execute, .badVirtualAddress .execute])

/-- The poll takes the greatest asserted level above `ipl`, never in firmware mode, and enters firmware in place of a
fetch (R431, R432, R434). -/
def Obligations.InterruptPollAndEntry : Prop :=
  (∀ (ipl : BitVec 5) (irq : BitVec 31),
    let asserted := fun l => 1 ≤ l ∧ l ≤ 31 ∧ irq.getLsbD (l - 1) = true ∧ ipl.toNat < l
    (nativePending ipl irq = 0 ∧ ∀ l, ¬ asserted l) ∨
      (asserted (nativePending ipl irq) ∧ ∀ l, asserted l → l ≤ nativePending ipl irq)) ∧
  (∀ s : State, s.palMode = true → pendingLevel nativeSetup s = 0) ∧
  (∀ s : State, s.palMode = false → (pendingLevel nativeSetup s).val = nativePending s.ipl s.irq) ∧
  (∀ s : State, pendingLevel nativeSetup s ≠ 0 →
    step s = .next ((({ s with ps := { s.ps with intId := BitVec.ofNat 5 (pendingLevel nativeSetup s).val } } :
      State).enterFirmware 0x0100 s.pc).endStep nativeSetup))

/-- Every fault kind has its code and its entry offset, and taking it latches kind, address and mode and enters firmware
there with the resuming PC recorded (R410, R442, R443). -/
def Obligations.FaultEntryTable : Prop :=
  ∀ (va : Word) (m : Mode) (resume : Word) (s : State),
    (∀ k : FaultKind, ∃ p ∈
      [(FaultKind.reservedInstruction, 0x01#5, 0x0480#15), (.reservedOperand, 0x02#5, 0x0600#15),
        (.misalignedOperand, 0x03#5, 0x0300#15), (.floatingDisabled, 0x04#5, 0x0580#15),
        (.tlbMiss .execute, 0x08#5, 0x0180#15), (.tlbMiss .read, 0x09#5, 0x0200#15), (.tlbMiss .write, 0x0A#5, 0x0200#15),
        (.faultOnReference .execute, 0x10#5, 0x0080#15), (.faultOnReference .read, 0x11#5, 0x0380#15),
        (.faultOnReference .write, 0x12#5, 0x0380#15), (.accessViolation .execute, 0x14#5, 0x0080#15),
        (.accessViolation .read, 0x15#5, 0x0380#15), (.accessViolation .write, 0x16#5, 0x0380#15),
        (.translationNotValid .execute, 0x18#5, 0x0080#15), (.translationNotValid .read, 0x19#5, 0x0380#15),
        (.translationNotValid .write, 0x1A#5, 0x0380#15), (.badVirtualAddress .execute, 0x1C#5, 0x0080#15),
        (.badVirtualAddress .read, 0x1D#5, 0x0380#15), (.badVirtualAddress .write, 0x1E#5, 0x0380#15)],
      p.1 = k ∧
      nativeException k va m resume s =
        ({ s with ps := { s.ps with faultKind := p.2.1, faultVa := va, faultMode := m } } : State).enterFirmware p.2.2 resume)

/-- The entry primitive: what it records, where it goes and what it leaves alone (R420, R421). -/
def Obligations.EntryIntoFirmware : Prop :=
  ∀ (s : State) (offset : BitVec 15) (resume : Word),
    s.palBase.extractLsb' 0 15 = 0 → offset.extractLsb' 0 2 = 0 →
    let t := s.enterFirmware offset resume
    t.excAddr.extractLsb' 2 62 = resume.extractLsb' 2 62 ∧ t.excAddr.getLsbD 1 = false ∧
      t.excAddr.getLsbD 0 = s.palMode ∧
    t.palMode = true ∧
    t.pc = s.palBase + offset.setWidth 64 ∧ t.pc = s.palBase ||| offset.setWidth 64 ∧
    (s.sde = true ∧ s.shdwActive = false →
      t.regs = s.exchange.regs ∧ t.shadow = s.exchange.shadow ∧ t.shdwActive = true) ∧
    (¬ (s.sde = true ∧ s.shdwActive = false) →
      t.regs = s.regs ∧ t.shadow = s.shadow ∧ t.shdwActive = s.shdwActive) ∧
    (∀ r : Reg, r ∉ [8, 9, 10, 11, 12, 13, 14, 25] → t.readInt r = s.readInt r) ∧
    t = { s with excAddr := t.excAddr, palMode := t.palMode, pc := t.pc, regs := t.regs, shadow := t.shadow,
                 shdwActive := t.shdwActive } ∧
    MemoryKept s t

/-- The exchange swaps each register of the shadow set with its cell, changes nothing else but `shdw_active`, and undoes
itself (R36). -/
def Obligations.ShadowExchangeSwaps : Prop :=
  ∀ s : State,
    let t := s.exchange
    (∀ p ∈ [((8 : Reg), (0 : Fin 8)), (9, 1), (10, 2), (11, 3), (12, 4), (13, 5), (14, 6), (25, 7)],
      t.readInt p.1 = s.shadow[p.2] ∧ t.shadow[p.2] = s.readInt p.1) ∧
    (∀ r : Reg, r ∉ [8, 9, 10, 11, 12, 13, 14, 25] → t.readInt r = s.readInt r) ∧
    t.shdwActive = !s.shdwActive ∧
    t = { s with regs := t.regs, shadow := t.shadow, shdwActive := t.shdwActive } ∧
    t.exchange = s

/-- An entry from outside firmware with the exchange enabled, then any firmware that keeps `exc_addr`, the shadow cells
and `shdw_active`, then `HW_REI` with RS: the interrupted registers, `PC` and mode are back, and the cells hold what
firmware left in the registers. -/
def Obligations.EntryThenReturnRestores : Prop :=
  ∀ (s firmware : State) (offset : BitVec 15) (resume : Word),
    s.palMode = false → s.sde = true → s.shdwActive = false →
    let t := s.enterFirmware offset resume
    firmware.excAddr = t.excAddr → firmware.shadow = t.shadow → firmware.shdwActive = t.shdwActive →
    firmware.palMode = true → firmware.trapSumm = 0 →
    EndsWith (.hwRei true 0) firmware fun u =>
      u.pc = alignPc resume ∧ u.palMode = false ∧ u.shdwActive = false ∧ u.lockFlag = false ∧ u.cm = firmware.cm ∧
      (∀ p ∈ [((8 : Reg), (0 : Fin 8)), (9, 1), (10, 2), (11, 3), (12, 4), (13, 5), (14, 6), (25, 7)],
        u.readInt p.1 = s.readInt p.1 ∧ u.shadow[p.2] = firmware.readInt p.1) ∧
      (∀ r : Reg, r ∉ [8, 9, 10, 11, 12, 13, 14, 25] → u.readInt r = firmware.readInt r) ∧
      MemoryKept firmware u

/-- `HW_REI`, whole (R389). -/
def Obligations.ReturnFromFirmware : Prop :=
  (HasOpcode 0x1E fun w => .hwRei (w.getLsbD 15) (w.extractLsb' 0 15)) ∧
  ∀ (rs : Bool) (mbz : BitVec 15) (s : State),
    (¬ (s.palMode = true ∨ s.cm = 0) → RaisesReserved (.hwRei rs mbz) s) ∧
    (s.palMode = true ∨ s.cm = 0 → mbz ≠ 0 → RaisesReserved (.hwRei rs mbz) s) ∧
    (s.palMode = true ∨ s.cm = 0 → s.trapSumm = 0 →
      EndsWith (.hwRei rs 0) s fun t =>
        let back := if rs = true ∧ s.shdwActive = true ∧ s.excAddr.getLsbD 0 = false then s.exchange else s
        t = { s with
              pc := alignPc s.excAddr, palMode := s.excAddr.getLsbD 0, lockFlag := false
              pcq := t.pcq, pcqP := t.pcqP
              regs := back.regs, shadow := back.shadow, shdwActive := back.shdwActive } ∧
        Pushed s t s.pc ∧ MemoryKept s t)

/-- Trap delivery (R426): the causes an instruction accumulated are handed over in one entry after its own writes, and
between instructions none is pending. -/
def Obligations.TrapsDeliveredAtEnd : Prop :=
  (∀ s : State, s.trapSumm ≠ 0 →
    complete nativeSetup s = .next (nativeTrap s.trapSumm s.trapMask s.pc { s with trapSumm := 0, trapMask := 0 })) ∧
  (∀ (summ : BitVec 7) (mask resume : Word) (s : State),
    nativeTrap summ mask resume s =
      ({ s with ps := { s.ps with excSum := summ, excMask := mask } } : State).enterFirmware 0x0500 resume) ∧
  (∀ (i : Instr) (s t : State), s.trapSumm = 0 → s.trapMask = 0 → exec i s = .next t →
    t.trapSumm = 0 ∧ t.trapMask = 0) ∧
  (∀ s t : State, s.trapSumm = 0 → s.trapMask = 0 → step s = .next t → t.trapSumm = 0 ∧ t.trapMask = 0)

/-! ### Operands (30_encoding R140, R141) -/

/-- The literal is zero-extended; displacements are sign-extended, those of branches counted in instructions from the
next one; the unaligned forms drop the low three bits of the address. -/
def Obligations.OperandsAndAddresses : Prop :=
  ∀ s : State,
    (∀ r, operandValue s (.reg r) = s.readInt r) ∧ s.readInt 31 = 0 ∧ s.readFp 31 = 0 ∧
    (∀ v, operandValue s (.lit v) = BitVec.ofNat 64 v.toNat) ∧
    (∀ rb disp, effAddr s rb disp = BitVec.ofInt 64 ((s.readInt rb).toInt + disp.toInt)) ∧
    (∀ rb disp, hwAddr s rb disp = BitVec.ofInt 64 ((s.readInt rb).toInt + disp.toInt)) ∧
    (∀ disp, branchTarget s disp = BitVec.ofInt 64 (s.pc.toInt + 4 + 4 * disp.toInt)) ∧
    (∀ ea, quadBase ea = BitVec.ofNat 64 (ea.toNat / 8 * 8))

/-! ### Integer arithmetic (41_integer_arith) -/

/-- The long adds and subtracts wrap at 32 bits and sign-extend (R203 to R208). -/
def Obligations.LongAddSubtract : Prop :=
  OperateRule 0x10 0x00 .addl (fun x y => longExtended (x.toInt + y.toInt)) ∧
  OperateRule 0x10 0x02 .s4addl (fun x y => longExtended (4 * x.toInt + y.toInt)) ∧
  OperateRule 0x10 0x12 .s8addl (fun x y => longExtended (8 * x.toInt + y.toInt)) ∧
  OperateRule 0x10 0x09 .subl (fun x y => longExtended (x.toInt - y.toInt)) ∧
  OperateRule 0x10 0x0B .s4subl (fun x y => longExtended (4 * x.toInt - y.toInt)) ∧
  OperateRule 0x10 0x1B .s8subl (fun x y => longExtended (8 * x.toInt - y.toInt))

/-- The quad adds and subtracts wrap at 64 bits (R209 to R214). -/
def Obligations.QuadAddSubtract : Prop :=
  OperateRule 0x10 0x20 .addq (fun x y => BitVec.ofInt 64 (x.toInt + y.toInt)) ∧
  OperateRule 0x10 0x22 .s4addq (fun x y => BitVec.ofInt 64 (4 * x.toInt + y.toInt)) ∧
  OperateRule 0x10 0x32 .s8addq (fun x y => BitVec.ofInt 64 (8 * x.toInt + y.toInt)) ∧
  OperateRule 0x10 0x29 .subq (fun x y => BitVec.ofInt 64 (x.toInt - y.toInt)) ∧
  OperateRule 0x10 0x2B .s4subq (fun x y => BitVec.ofInt 64 (4 * x.toInt - y.toInt)) ∧
  OperateRule 0x10 0x3B .s8subq (fun x y => BitVec.ofInt 64 (8 * x.toInt - y.toInt))

/-- The add and subtract forms that trap, by the rules' own sign-bit tests (R215 to R218). -/
def Obligations.AddSubtractOverflow : Prop :=
  OverflowRule 0x10 0x40 .addlV (fun x y => longExtended (x.toInt + y.toInt))
    (fun x y => (~~~(x ^^^ y) &&& (x ^^^ longExtended (x.toInt + y.toInt))).getLsbD 31 = true) ∧
  OverflowRule 0x10 0x49 .sublV (fun x y => longExtended (x.toInt - y.toInt))
    (fun x y => ((x ^^^ y) &&& (x ^^^ longExtended (x.toInt - y.toInt))).getLsbD 31 = true) ∧
  OverflowRule 0x10 0x60 .addqV (fun x y => BitVec.ofInt 64 (x.toInt + y.toInt))
    (fun x y => (~~~(x ^^^ y) &&& (x ^^^ BitVec.ofInt 64 (x.toInt + y.toInt))).getLsbD 63 = true) ∧
  OverflowRule 0x10 0x69 .subqV (fun x y => BitVec.ofInt 64 (x.toInt - y.toInt))
    (fun x y => ((x ^^^ y) &&& (x ^^^ BitVec.ofInt 64 (x.toInt - y.toInt))).getLsbD 63 = true)

/-- The sign-bit tests hold exactly when the true result is outside the signed range. R201 states this equality as its
own derivation. -/
def Obligations.SignBitOverflowIsExact : Prop :=
  ∀ a b : Word,
    (addOverflow 63 a b (a + b) = true ↔ a.toInt + b.toInt < -2 ^ 63 ∨ 2 ^ 63 ≤ a.toInt + b.toInt) ∧
    (subOverflow 63 a b (a - b) = true ↔ a.toInt - b.toInt < -2 ^ 63 ∨ 2 ^ 63 ≤ a.toInt - b.toInt) ∧
    (addOverflow 31 a b (sext 32 (a + b)) = true ↔
      (a.setWidth 32).toInt + (b.setWidth 32).toInt < -2 ^ 31 ∨
        2 ^ 31 ≤ (a.setWidth 32).toInt + (b.setWidth 32).toInt) ∧
    (subOverflow 31 a b (sext 32 (a - b)) = true ↔
      (a.setWidth 32).toInt - (b.setWidth 32).toInt < -2 ^ 31 ∨
        2 ^ 31 ≤ (a.setWidth 32).toInt - (b.setWidth 32).toInt)

/-- The compares, signed and unsigned, and the byte compare (R220 to R225). -/
def Obligations.Compares : Prop :=
  OperateRule 0x10 0x2D .cmpeq (fun x y => if x = y then 1 else 0) ∧
  OperateRule 0x10 0x4D .cmplt (fun x y => if x.toInt < y.toInt then 1 else 0) ∧
  OperateRule 0x10 0x6D .cmple (fun x y => if x.toInt ≤ y.toInt then 1 else 0) ∧
  OperateRule 0x10 0x1D .cmpult (fun x y => if x.toNat < y.toNat then 1 else 0) ∧
  OperateRule 0x10 0x3D .cmpule (fun x y => if x.toNat ≤ y.toNat then 1 else 0) ∧
  OprFormat 0x10 0x0F .cmpbge ∧
  ∀ ra b rc s, s.trapSumm = 0 → ∃ v : Word,
    (∀ i, v.getLsbD i = (decide (i < 8) &&
      decide (((operandValue s b).extractLsb' (8 * i) 8).toNat ≤ ((s.readInt ra).extractLsb' (8 * i) 8).toNat))) ∧
    IntResult (.cmpbge ra b rc) s rc v

/-- The multiplies, and the two that trap when the exact signed product does not fit (R226 to R230). -/
def Obligations.Multiplies : Prop :=
  OperateRule 0x13 0x00 .mull (fun x y => longExtended (x.toNat % 2 ^ 32 * (y.toNat % 2 ^ 32))) ∧
  OperateRule 0x13 0x20 .mulq (fun x y => BitVec.ofNat 64 (x.toNat * y.toNat)) ∧
  OperateRule 0x13 0x30 .umulh (fun x y => BitVec.ofNat 64 (x.toNat * y.toNat / 2 ^ 64)) ∧
  OverflowRule 0x13 0x40 .mullV (fun x y => longExtended ((x.setWidth 32).toInt * (y.setWidth 32).toInt))
    (fun x y => (x.setWidth 32).toInt * (y.setWidth 32).toInt < -2 ^ 31 ∨
      2 ^ 31 ≤ (x.setWidth 32).toInt * (y.setWidth 32).toInt) ∧
  OverflowRule 0x13 0x60 .mulqV (fun x y => BitVec.ofInt 64 (x.toInt * y.toInt))
    (fun x y => x.toInt * y.toInt < -2 ^ 63 ∨ 2 ^ 63 ≤ x.toInt * y.toInt)

/-! ### Logical and conditional moves (42_logical_cmov) -/

/-- The six logical operations and the two feature queries (R241 to R246, R256, R257). -/
def Obligations.LogicalAndFeatureQueries : Prop :=
  OperateRule 0x11 0x00 .and (fun x y => x &&& y) ∧
  OperateRule 0x11 0x08 .bic (fun x y => x &&& ~~~y) ∧
  OperateRule 0x11 0x20 .bis (fun x y => x ||| y) ∧
  OperateRule 0x11 0x28 .ornot (fun x y => x ||| ~~~y) ∧
  OperateRule 0x11 0x40 .xor (fun x y => x ^^^ y) ∧
  OperateRule 0x11 0x48 .eqv (fun x y => x ^^^ ~~~y) ∧
  OperateRule 0x11 0x61 (fun _ b rc => .amask b rc) (fun _ y => y &&& ~~~nativeSetup.amaskFeatures) ∧
  OperateRule 0x11 0x6C (fun _ _ rc => .implver rc) (fun _ _ => nativeSetup.implverValue)

/-- The eight conditional moves: the destination takes the second operand, or is left as it was (R247 to R255). -/
def Obligations.ConditionalMoves : Prop :=
  MoveRule 0x14 .cmovlbs (fun x => x.toNat % 2 = 1) ∧ MoveRule 0x16 .cmovlbc (fun x => x.toNat % 2 = 0) ∧
  MoveRule 0x24 .cmoveq (fun x => x.toInt = 0) ∧ MoveRule 0x26 .cmovne (fun x => x.toInt ≠ 0) ∧
  MoveRule 0x44 .cmovlt (fun x => x.toInt < 0) ∧ MoveRule 0x46 .cmovge (fun x => 0 ≤ x.toInt) ∧
  MoveRule 0x64 .cmovle (fun x => x.toInt ≤ 0) ∧ MoveRule 0x66 .cmovgt (fun x => 0 < x.toInt)

/-! ### Shifts and bytes (43_shift_bytemanip) -/

/-- The shifts, by the low six bits of the count (R262 to R264). -/
def Obligations.Shifts : Prop :=
  OperateRule 0x12 0x39 .sll (fun x y => BitVec.ofNat 64 (x.toNat * 2 ^ (y.toNat % 64))) ∧
  OperateRule 0x12 0x34 .srl (fun x y => BitVec.ofNat 64 (x.toNat / 2 ^ (y.toNat % 64))) ∧
  OperateRule 0x12 0x3C .sra (fun x y => BitVec.ofInt 64 (x.toInt / 2 ^ (y.toNat % 64)))

/-- The extracts, byte by byte (R265 to R271): the low forms move the datum down from its position, the high forms move
the bytes of the following quad up; at position 0 the high forms take the quad as it is. -/
def Obligations.Extracts : Prop :=
  let low := fun (n : Nat) (x y : Word) (i : Nat) =>
    if i < n ∧ i + bytePosition y < 8 then x.extractLsb' (8 * (i + bytePosition y)) 8 else (0 : Byte)
  let high := fun (n : Nat) (x y : Word) (i : Nat) =>
    if i < n ∧ (8 - bytePosition y) % 8 ≤ i then x.extractLsb' (8 * (i - (8 - bytePosition y) % 8)) 8 else (0 : Byte)
  ByteRule 0x12 0x06 .extbl (low 1) ∧ ByteRule 0x12 0x16 .extwl (low 2) ∧ ByteRule 0x12 0x26 .extll (low 4) ∧
  ByteRule 0x12 0x36 .extql (low 8) ∧
  ByteRule 0x12 0x5A .extwh (high 2) ∧ ByteRule 0x12 0x6A .extlh (high 4) ∧ ByteRule 0x12 0x7A .extqh (high 8)

/-- The inserts, byte by byte (R272 to R278): the datum's bytes that fall in this quad, or those that spill into the next,
with zeros around them. -/
def Obligations.Inserts : Prop :=
  let low := fun (n : Nat) (x y : Word) (i : Nat) =>
    if bytePosition y ≤ i ∧ i < bytePosition y + n then x.extractLsb' (8 * (i - bytePosition y)) 8 else (0 : Byte)
  let high := fun (n : Nat) (x y : Word) (i : Nat) =>
    if i + 8 < bytePosition y + n then x.extractLsb' (8 * (i + 8 - bytePosition y)) 8 else (0 : Byte)
  ByteRule 0x12 0x0B .insbl (low 1) ∧ ByteRule 0x12 0x1B .inswl (low 2) ∧ ByteRule 0x12 0x2B .insll (low 4) ∧
  ByteRule 0x12 0x3B .insql (low 8) ∧
  ByteRule 0x12 0x57 .inswh (high 2) ∧ ByteRule 0x12 0x67 .inslh (high 4) ∧ ByteRule 0x12 0x77 .insqh (high 8)

/-- The masks, byte by byte (R279 to R285): the bytes a datum at the position would occupy are cleared. -/
def Obligations.Masks : Prop :=
  let low := fun (n : Nat) (x y : Word) (i : Nat) =>
    if bytePosition y ≤ i ∧ i < bytePosition y + n then (0 : Byte) else x.extractLsb' (8 * i) 8
  let high := fun (n : Nat) (x y : Word) (i : Nat) =>
    if i + 8 < bytePosition y + n then (0 : Byte) else x.extractLsb' (8 * i) 8
  ByteRule 0x12 0x02 .mskbl (low 1) ∧ ByteRule 0x12 0x12 .mskwl (low 2) ∧ ByteRule 0x12 0x22 .mskll (low 4) ∧
  ByteRule 0x12 0x32 .mskql (low 8) ∧
  ByteRule 0x12 0x52 .mskwh (high 2) ∧ ByteRule 0x12 0x62 .msklh (high 4) ∧ ByteRule 0x12 0x72 .mskqh (high 8)

/-- Zeroing bytes by a mask, and sign extension of a byte or a word (R286 to R289). -/
def Obligations.ZapAndSignExtend : Prop :=
  ByteRule 0x12 0x30 .zap (fun x y i => if y.getLsbD i then 0 else x.extractLsb' (8 * i) 8) ∧
  ByteRule 0x12 0x31 .zapnot (fun x y i => if y.getLsbD i then x.extractLsb' (8 * i) 8 else 0) ∧
  OperateRule 0x1C 0x00 (fun _ b rc => .sextb b rc) (fun _ y => BitVec.ofInt 64 (y.setWidth 8).toInt) ∧
  OperateRule 0x1C 0x01 (fun _ b rc => .sextw b rc) (fun _ y => BitVec.ofInt 64 (y.setWidth 16).toInt)

/-! ### Loads and stores (40_memory_format, 20_memory) -/

/-- `LDA` and `LDAH` compute an address and make no access (R171, R172). -/
def Obligations.LoadAddress : Prop :=
  MemFormat 0x08 .lda ∧ MemFormat 0x09 .ldah ∧
  ∀ ra rb disp s, s.trapSumm = 0 →
    IntResult (.lda ra rb disp) s ra (BitVec.ofInt 64 ((s.readInt rb).toInt + disp.toInt)) ∧
    IntResult (.ldah ra rb disp) s ra (BitVec.ofInt 64 ((s.readInt rb).toInt + 65536 * disp.toInt))

/-- The integer loads (R173 to R177): alignment, translation, access, register write, in this order, at every address. -/
def Obligations.IntegerLoads : Prop :=
  LoadRule 0x0A .ldbu .byte id zeroExtended ∧ LoadRule 0x0C .ldwu .word id zeroExtended ∧
  LoadRule 0x28 .ldl .long id (fun n => longExtended n) ∧ LoadRule 0x29 .ldq .quad id zeroExtended ∧
  LoadRule 0x0B .ldqU .quad quadBase zeroExtended

/-- The load-locked forms also set `lock_flag`, and leave it alone when they fault (R178, R179, R90). -/
def Obligations.LoadsLocked : Prop :=
  LoadLockedRule 0x2A .ldlL .long (fun n => longExtended n) ∧ LoadLockedRule 0x2B .ldqL .quad zeroExtended

/-- The integer stores (R180 to R184): the bytes stored, and every other byte as before. -/
def Obligations.IntegerStores : Prop :=
  StoreRule 0x0E .stb .byte id ∧ StoreRule 0x0D .stw .word id ∧ StoreRule 0x2C .stl .long id ∧
  StoreRule 0x2D .stq .quad id ∧ StoreRule 0x0F .stqU .quad quadBase

/-- The store-conditional forms (R185, R186, R91). -/
def Obligations.StoresConditional : Prop :=
  StoreConditionalRule 0x2E .stlC .long ∧ StoreConditionalRule 0x2F .stqC .quad

/-! ### Control transfer (44_control) -/

/-- The eight integer conditional branches (R302, R305 to R312). -/
def Obligations.IntegerBranches : Prop :=
  BranchRule 0x38 .blbc (fun x => x.toNat % 2 = 0) ∧ BranchRule 0x39 .beq (fun x => x.toInt = 0) ∧
  BranchRule 0x3A .blt (fun x => x.toInt < 0) ∧ BranchRule 0x3B .ble (fun x => x.toInt ≤ 0) ∧
  BranchRule 0x3C .blbs (fun x => x.toNat % 2 = 1) ∧ BranchRule 0x3D .bne (fun x => x.toInt ≠ 0) ∧
  BranchRule 0x3E .bge (fun x => 0 ≤ x.toInt) ∧ BranchRule 0x3F .bgt (fun x => 0 < x.toInt)

/-- The branches with link and the jump group (R303, R304, R319 to R323): the target is read before the link is
written. -/
def Obligations.LinkTransfers : Prop :=
  BraFormat 0x30 .br ∧ BraFormat 0x34 .bsr ∧
  (HasOpcode 0x1A fun w =>
    let ra := w.extractLsb' 21 5
    let rb := w.extractLsb' 16 5
    if w.extractLsb' 14 2 = 0 then .jmp ra rb else if w.extractLsb' 14 2 = 1 then .jsr ra rb
    else if w.extractLsb' 14 2 = 2 then .ret ra rb else .jsrCoroutine ra rb) ∧
  ∀ (ra rb : Reg) (disp : BitVec 21) (s : State), s.trapSumm = 0 →
    let target := s.pc + 4 + BitVec.ofInt 64 (4 * disp.toInt)
    EndsWith (.br ra disp) s (fun t => TransfersWithLink s t ra target) ∧
    EndsWith (.bsr ra disp) s (fun t => TransfersWithLink s t ra target) ∧
    EndsWith (.jmp ra rb) s (fun t => TransfersWithLink s t ra (s.readInt rb)) ∧
    EndsWith (.jsr ra rb) s (fun t => TransfersWithLink s t ra (s.readInt rb)) ∧
    EndsWith (.ret ra rb) s (fun t => TransfersWithLink s t ra (s.readInt rb)) ∧
    EndsWith (.jsrCoroutine ra rb) s (fun t => TransfersWithLink s t ra (s.readInt rb))

/-- The six floating branches test the raw bits as sign and magnitude (R313 to R318, R354). -/
def Obligations.FloatingBranches : Prop :=
  FpBranchRule 0x31 .fbeq (fun v => v.toNat % 2 ^ 63 = 0) ∧
  FpBranchRule 0x32 .fblt (fun v => 2 ^ 63 ≤ v.toNat ∧ v.toNat % 2 ^ 63 ≠ 0) ∧
  FpBranchRule 0x33 .fble (fun v => 2 ^ 63 ≤ v.toNat ∨ v.toNat % 2 ^ 63 = 0) ∧
  FpBranchRule 0x35 .fbne (fun v => v.toNat % 2 ^ 63 ≠ 0) ∧
  FpBranchRule 0x36 .fbge (fun v => v.toNat < 2 ^ 63 ∨ v.toNat % 2 ^ 63 = 0) ∧
  FpBranchRule 0x37 .fbgt (fun v => v.toNat < 2 ^ 63 ∧ v.toNat % 2 ^ 63 ≠ 0)

/-! ### Miscellaneous (45_misc) -/

/-- Barriers and hints only advance the program counter (R330 to R335, R339, R340). -/
def Obligations.BarriersAndHintsDoNothing : Prop :=
  MfcFormat 0x0000 (fun _ _ => .trapb) ∧ MfcFormat 0x0400 (fun _ _ => .excb) ∧ MfcFormat 0x4000 (fun _ _ => .mb) ∧
  MfcFormat 0x4400 (fun _ _ => .wmb) ∧ MfcFormat 0x8000 (fun _ rb => .fetch rb) ∧
  MfcFormat 0xA000 (fun _ rb => .fetchM rb) ∧ MfcFormat 0xE800 (fun _ rb => .ecb rb) ∧
  MfcFormat 0xF800 (fun _ rb => .wh64 rb) ∧
  ∀ (rb : Reg) (s : State), s.trapSumm = 0 →
    ∀ i ∈ [Instr.trapb, .excb, .mb, .wmb, .fetch rb, .fetchM rb, .ecb rb, .wh64 rb], EndsWith i s (OnlyAdvances s)

/-- `RS` and `RC` read the interrupt flag before they set or clear it (R337, R338); `RPCC` writes a draw, an input of the
step (R336). That the draw is `Config.freeWord` of the count of draws taken is the model's choice, not the rule's (log
entry 6, DESIGN CHOICE). -/
def Obligations.CounterAndInterruptFlag : Prop :=
  MfcFormat 0xC000 (fun ra _ => .rpcc ra) ∧ MfcFormat 0xF000 (fun ra _ => .rs ra) ∧
  MfcFormat 0xE000 (fun ra _ => .rc ra) ∧
  ∀ (ra : Reg) (s : State), s.trapSumm = 0 →
    EndsWith (.rpcc ra) s (fun t => WritesInt { s with draws := s.draws + 1 } t ra (Config.freeWord s.draws)) ∧
    EndsWith (.rs ra) s (fun t => WritesInt { s with intrFlag := true } t ra (BitVec.ofNat 64 s.intrFlag.toNat)) ∧
    EndsWith (.rc ra) s (fun t => WritesInt { s with intrFlag := false } t ra (BitVec.ofNat 64 s.intrFlag.toNat))

/-! ### The floating-point interface (46_floating_interface) -/

/-- The four operate groups: the enable, then each answer of the collaborator (R351, R354, R355). -/
def Obligations.FloatingOperate : Prop :=
  FpOperateRule 0x14 .itfp ∧ FpOperateRule 0x15 .fltv ∧ FpOperateRule 0x16 .flti ∧ FpOperateRule 0x17 .fltl

/-- The floating loads and their register images (R356, R357, R360 to R363). -/
def Obligations.FloatingLoads : Prop :=
  FpLoadRule 0x20 .ldf .long (fun n v => LegacySingle (BitVec.ofNat 64 n) v) ∧
  FpLoadRule 0x21 .ldg .quad (fun n v => WordsReversed (BitVec.ofNat 64 n) v) ∧
  FpLoadRule 0x22 .lds .long (fun n v => StandardSingle (BitVec.ofNat 64 n) v) ∧
  FpLoadRule 0x23 .ldt .quad (fun n v => v = BitVec.ofNat 64 n)

/-- The floating stores and their memory images (R356, R364 to R367). -/
def Obligations.FloatingStores : Prop :=
  FpStoreRule 0x24 .stf .long LegacyImage ∧ FpStoreRule 0x25 .stg .quad WordsReversed ∧
  FpStoreRule 0x26 .sts .long StandardImage ∧ FpStoreRule 0x27 .stt .quad (fun r v => v = r)

/-- A floating store of what a floating load produced restores the datum: the store images invert the load images. -/
def Obligations.FloatingImagesInvert : Prop :=
  ∀ m : BitVec 32, packF (expandF (m.setWidth 64)) = m.setWidth 64 ∧ packS (expandS (m.setWidth 64)) = m.setWidth 64 ∧
    ∀ q : Word, reverseWords (reverseWords q) = q

/-! ### Firmware opcodes (47_firmware_opcodes) -/

/-- `CALL_PAL` under NATIVE, and the engine's part under any personality (R381): what follows each answer of the callback, and
that a stop inside it is the step's (log entry 23). That a `Fault` is dispatched from the state of the `CALL_PAL`, the
callback's writes discarded and the record of its accesses kept, is the model's reading (log entry 24, DEDUCED), as are the
answers and what a callback is (log entry 10, DEDUCED); the mode is stated only where R412 gives it. -/
def Obligations.CallPalEntersFirmware : Prop :=
  (HasOpcode 0x00 fun w => .callPal (w.extractLsb' 8 18) (w.getLsbD 7) (w.extractLsb' 0 7)) ∧
  (∀ (mbz : BitVec 18) (cls : Bool) (n : BitVec 7) (s : State),
    (mbz ≠ 0 → RaisesReserved (.callPal mbz cls n) s) ∧
    (s.palMode = false → s.cm ≠ 0 → RaisesReserved (.callPal mbz false n) s) ∧
    (cls = true ∨ s.palMode = true ∨ s.cm = 0 → s.trapSumm = 0 →
      exec (.callPal 0 cls n) s = .next
        (s.enterFirmware (BitVec.ofNat 15 ((if cls then 0x4000 else 0x2000) + 64 * n.toNat)) (s.pc + 4)))) ∧
  (∀ (π : Type) (M : Setup π) (cls : Bool) (n : BitVec 7) (s : State π), cls = true ∨ s.palMode = true ∨ s.cm = 0 →
    let call := (M.personality.executePrivilegedOpcode (BitVec.ofBool cls ++ n) s).run M s
    (∀ s', call = .answered .done s' → s'.trapSumm = 0 → callPal M 0 cls n s = .next { s' with pc := alignPc (s.pc + 4) }) ∧
    (∀ s', call = .answered .again s' → s'.trapSumm = 0 → callPal M 0 cls n s = .next { s' with pc := alignPc s.pc }) ∧
    (∀ k va s', call = .answered (.fault k va) s' → ∃ m log answers draws,
      (k ∈ [.reservedInstruction, .reservedOperand, .misalignedOperand, .floatingDisabled] → m = s.cm) ∧
      callPal M 0 cls n s = dispatchFault M k va m { s with ioLog := log, ioAnswers := answers, draws := draws }) ∧
    (∀ code s', call = .answered (.stop code) s' → callPal M 0 cls n s = .fault (.stopPersonality code)) ∧
    (∀ f, call = .stopped f → callPal M 0 cls n s = .fault f))

/-- `HW_MFPR`: the read column of the internal-register map (R49), and what is not readable (R50, R385). -/
def Obligations.InternalRegisterReads : Prop :=
  (HasOpcode 0x19 fun w => .hwMfpr (w.extractLsb' 21 5) (w.extractLsb' 0 16)) ∧
  ∀ (ra : Reg) (index : BitVec 16) (s : State),
    (¬ (s.palMode = true ∨ s.cm = 0) → RaisesReserved (.hwMfpr ra index) s) ∧
    (s.palMode = true ∨ s.cm = 0 → s.trapSumm = 0 →
      (∀ p ∈ registerReads s.ps s, IntResult (.hwMfpr ra p.1) s ra p.2) ∧
      (∀ k : Fin 24, IntResult (.hwMfpr ra (BitVec.ofNat 16 (0x0040 + k))) s ra s.ps.palTemp[k]) ∧
      (∀ k : Fin 64, IntResult (.hwMfpr ra (BitVec.ofNat 16 (0x0100 + k))) s ra (s.pcqEntry k)) ∧
      (¬ ReadableIndex 64 index → RaisesReservedOperand (.hwMfpr ra index) s))

/-- `HW_MTPR`: the write column of the internal-register map (R49), and what is not writable (R50, R386). -/
def Obligations.InternalRegisterWrites : Prop :=
  (HasOpcode 0x1D fun w => .hwMtpr (w.extractLsb' 16 5) (w.extractLsb' 0 16)) ∧
  ∀ (rb : Reg) (index : BitVec 16) (s : State),
    let v := s.readInt rb
    let advanced := fun t : State => { t with pc := alignPc (s.pc + 4) }
    (¬ (s.palMode = true ∨ s.cm = 0) → RaisesReserved (.hwMtpr rb index) s) ∧
    (s.palMode = true ∨ s.cm = 0 → s.trapSumm = 0 →
      (∀ p ∈ registerWrites nativeSetup s.ps v s, exec (.hwMtpr rb p.1) s = .next (advanced p.2)) ∧
      (∀ k : Fin 24, exec (.hwMtpr rb (BitVec.ofNat 16 (0x0040 + k))) s =
        .next (advanced { s with ps := { s.ps with palTemp := s.ps.palTemp.set k v } })) ∧
      (∀ p ∈ [(0x0011#16, Side.instruction, s.itbTag), (0x0021, .data, s.dtbTag)],
        (∀ e s', tlbLoad nativeSetup p.2.1 p.2.2 v s = .ok e s' → exec (.hwMtpr rb p.1) s = .next (advanced s')) ∧
        (∀ f, tlbLoad nativeSetup p.2.1 p.2.2 v s = .stopped f → exec (.hwMtpr rb p.1) s = .fault f)) ∧
      (¬ WritableIndex index → RaisesReservedOperand (.hwMtpr rb index) s))

/-- `HW_LD`, every qualifier (R382, R383). -/
def Obligations.HardwareLoad : Prop :=
  HwmFormat 0x1B .hwLd ∧
  ∀ (ra rb : Reg) (q : HwQualifiers) (disp : BitVec 10) (s : State),
    (¬ (s.palMode = true ∨ s.cm = 0) → RaisesReserved (.hwLd ra rb q disp) s) ∧
    (s.palMode = true ∨ s.cm = 0 → q.mbz13 = true ∨ q.mbz11 = true → RaisesReserved (.hwLd ra rb q disp) s) ∧
    (s.palMode = true ∨ s.cm = 0 → q.mbz13 = false → q.mbz11 = false → s.trapSumm = 0 →
      ReadRule (.hwLd ra rb q disp) s (hwAddr s rb disp) (if q.quad then .quad else .long)
        (hwPlace q (hwAddr s rb disp) .read s) fun s' n t =>
          WritesInt { s' with lockFlag := s.lockFlag || q.lock } t ra (if q.quad then zeroExtended n else longExtended n))

/-- `HW_ST`, every qualifier; with LOCK a store-conditional (R382, R384). -/
def Obligations.HardwareStore : Prop :=
  HwmFormat 0x1F .hwSt ∧
  ∀ (ra rb : Reg) (q : HwQualifiers) (disp : BitVec 10) (s : State),
    (¬ (s.palMode = true ∨ s.cm = 0) → RaisesReserved (.hwSt ra rb q disp) s) ∧
    (s.palMode = true ∨ s.cm = 0 → q.mbz13 = true ∨ q.mbz11 = true → RaisesReserved (.hwSt ra rb q disp) s) ∧
    (s.palMode = true ∨ s.cm = 0 → q.mbz13 = false → q.mbz11 = false → s.trapSumm = 0 → Memory.wf s.mem = true →
      (q.lock = true → s.lockFlag = false → IntResult (.hwSt ra rb q disp) s ra 0) ∧
      (q.lock = false ∨ s.lockFlag = true →
        WriteRule (.hwSt ra rb q disp) s (hwAddr s rb disp) (if q.quad then .quad else .long) (s.readInt ra)
          (hwPlace q (hwAddr s rb disp) .write s) fun s' t =>
            if q.lock then WritesInt { s' with lockFlag := false } t ra 1 else OnlyAdvances s' t))

/-! ### Translation (20_memory R100 to R114) -/

/-- The translator under any configuration and personality, case by case in its order (R100 to R103, R108, R109; the miss
of a side whose policy is FAULT, R107). -/
def Obligations.TranslationOrder : Prop :=
  ∀ (π : Type) (M : Setup π) (va : Word) (acc : Access) (m : Mode) (s : State π),
    let high := va.toNat / 2 ^ (M.vaBits - 1)
    let proper := high = 0 ∨ high = 2 ^ (65 - M.vaBits) - 1
    let window := (if acc = .execute then s.ispe else s.dspe) = true ∧ va.toNat / 2 ^ (M.vaBits - 2) % 4 = 2
    let side : Side := if acc = .execute then .instruction else .data
    let vpn : Vpn := BitVec.ofNat 64 (va.toNat / 2 ^ 13 % 2 ^ M.vpnBits)
    (¬ proper → translate M va acc m s = .raised (.badVirtualAddress acc) va m s) ∧
    (proper → window → m ≠ 0 → translate M va acc m s = .raised (.accessViolation acc) va m s) ∧
    (proper → window → m = 0 →
      translate M va acc m s = .ok (BitVec.ofNat 64 (va.toNat % 2 ^ (M.vaBits - 2))) s) ∧
    (proper → ¬ window → M.personality.missPolicy side = .fault → ∀ s', s.lookup side vpn = (none, s') →
      translate M va acc m s = .raised (.tlbMiss acc) va m s') ∧
    (proper → ¬ window → ∀ e s', s.lookup side vpn = (some e, s') →
      let enabled := e.pte.getLsbD ((if acc = .write then 12 else 8) + m.toNat)
      let faultOn := e.pte.getLsbD (if acc = .read then 1 else if acc = .write then 2 else 3)
      (enabled = false → translate M va acc m s = .raised (.accessViolation acc) va m s') ∧
      (enabled = true → e.pte.getLsbD 0 = false → translate M va acc m s = .raised (.translationNotValid acc) va m s') ∧
      (enabled = true → e.pte.getLsbD 0 = true → faultOn = true →
        translate M va acc m s = .raised (.faultOnReference acc) va m s') ∧
      (enabled = true → e.pte.getLsbD 0 = true → faultOn = false →
        translate M va acc m s =
          .ok (BitVec.ofNat 64 ((e.pfn ||| (vpn &&& e.ghMask)).toNat * 2 ^ 13 + va.toNat % 2 ^ 13))
            (s'.setTlb side { s'.tlb side with mini := some (vpn, e) })))

/-- A lookup answers an entry of the table that matches the page in the current ASN, and none only when none does, in
every state whose mini-TLB copies a matching entry (R105, R106; R104 states it as its own derivation). -/
def Obligations.LookupIsTableMatch : Prop :=
  ∀ (s : State) (side : Side) (vpn : Vpn), (s.tlb side).Consistent Config.standard (nativeSetup.tlbSize side) →
    let found := fun e : TlbEntry =>
      some e ∈ (s.tlb side).slots ∧ e.asn = (s.tlb side).asn ∧ vpn &&& ~~~e.ghMask = e.tag
    (∀ e s', s.lookup side vpn = (some e, s') → found e) ∧
    (∀ s', s.lookup side vpn = (none, s') → ∀ e, ¬ found e)

/-- `TlbLoad`, whole (R110, R101): the entry built, the slot it goes to, the pointer, and the stop that a table with its
pointer in range never takes (R114). -/
def Obligations.TlbLoadReplacement : Prop :=
  ∀ (π : Type) (M : Setup π) (side : Side) (vpn : Vpn) (p : Word) (s : State π),
    let t := s.tlb side
    let mask : Vpn := BitVec.ofNat 64 (8 ^ (p.toNat / 32 % 4) - 1)
    let e : TlbEntry :=
      { tag := vpn &&& ~~~mask, asn := t.asn, pte := BitVec.ofNat 16 p.toNat,
        pfn := BitVec.ofNat 64 (p.toNat / 2 ^ 32 % 2 ^ M.pfnBits) &&& ~~~mask, ghMask := mask }
    let holds := fun slot => ∃ old, t.slots[slot]? = some (some old) ∧ old.tag = e.tag ∧ old.asn = t.asn
    (∀ slot, holds slot → (∀ j < slot, ¬ holds j) →
      tlbLoad M side vpn p s = .ok e (s.setTlb side { t with slots := t.slots.set slot (some e), mini := none })) ∧
    ((∀ slot, ¬ holds slot) → t.nlu < M.tlbSize side →
      tlbLoad M side vpn p s = .ok e (s.setTlb side
        { t with slots := t.slots.set t.nlu (some e), nlu := (t.nlu + 1) % M.tlbSize side, mini := none })) ∧
    ((∀ slot, ¬ holds slot) → ¬ t.nlu < M.tlbSize side → tlbLoad M side vpn p s = .stopped .stopEngine)

/-- The three other table operations, slot by slot (R111, R112, R113), and what a change of ASN and back leaves
matching. -/
def Obligations.TlbMaintenance : Prop :=
  ∀ (π : Type) (M : Setup π) (side : Side) (s : State π),
    let t := s.tlb side
    (∀ asn, ∃ slots : List (Option TlbEntry), setAsn side asn s = s.setTlb side { t with slots := slots, asn := asn, mini := none } ∧
      ∀ j : Nat, slots[j]? = t.slots[j]?.map fun slot : Option TlbEntry =>
        slot.map fun e => if e.pte.getLsbD 4 then { e with asn := asn } else e) ∧
    (∀ va : Word, ∃ slots : List (Option TlbEntry),
      invalidateSingle M side va s = s.setTlb side { t with slots := slots, mini := none } ∧
      ∀ j : Nat, slots[j]? = t.slots[j]?.map fun slot : Option TlbEntry =>
        slot.filter fun e => !decide (e.asn = t.asn ∧
          BitVec.ofNat 64 (va.toNat / 2 ^ 13 % 2 ^ M.vpnBits) &&& ~~~e.ghMask = e.tag)) ∧
    (∃ slots : List (Option TlbEntry),
      invalidateAll side false s = s.setTlb side { t with slots := slots, mini := none } ∧
      ∀ j : Nat, slots[j]? = t.slots[j]?.map fun slot : Option TlbEntry => slot.filter fun e => e.pte.getLsbD 4) ∧
    invalidateAll side true s = s.setTlb side
      { t with slots := List.replicate t.slots.length none, nlu := 0, mini := none } ∧
    (∀ (asn : Asn) (vpn : Vpn) (e : TlbEntry), e.pte.getLsbD 4 = false →
      (e ∈ ((setAsn side t.asn (setAsn side asn s)).tlb side).matching vpn ↔ e ∈ t.matching vpn))

/-- What a translation changes and what a walk leads to, under any personality (R100, R107). One that succeeds or raises a
fault changes no table entry on a hit or in the superpage; on a miss under WALK what `TlbLoad` installs, one entry, and the
pointer. Nothing else changes but the mini-TLB of the side, the draws and the record of the walker's accesses; a fault
carries the address and the mode, the mode of a walker's own kind too (for four kinds the model's choice, log entry 25). On a
miss under WALK, a walker's kind is raised; a PTE is installed and the entry then checked as a hit's is, so with V = 0 and the
enable bit set translation-not-valid is raised after the installation; a stop of the walk or of the installation is the
translation's. A TLB-miss kind is raised only of a side whose policy is FAULT (R446; log entry 22), and a translation stops
only in a walk: in a missed access of the walker (R77; log entry 23) or in the installation (R114). -/
def Obligations.MissPolicyInstallsOneEntry : Prop :=
  ∀ (π : Type) (M : Setup π) (va : Word) (acc : Access) (m : Mode) (s : State π),
    let side := acc.side
    let vpn := vpnOf M va
    let before := s.tlb side
    let walks := M.personality.missPolicy side = .walk
    let walk := fun s₀ : State π => (M.personality.walkPageTable vpn side acc s₀).run M s₀
    let installs := fun (p : Word) (e : TlbEntry) (s₁ s₂ : State π) =>
      tlbLoad M side vpn p s₁ = .ok e s₂ ∧ e = pteEntry M before.asn vpn p ∧
        ∃ slot, (s₂.tlb side).slots = before.slots.set slot (some e)
    let framed := fun s' : State π =>
      (∀ other, other ≠ side → s'.tlb other = s.tlb other) ∧ (s'.tlb side).asn = before.asn ∧
        s' = { s with
          itlb := s'.itlb, dtlb := s'.dtlb, draws := s'.draws, ioAnswers := s'.ioAnswers, ioLog := s'.ioLog }
    (∀ s' pa, translate M va acc m s = .ok pa s' → framed s' ∧
      (((s'.tlb side).slots = before.slots ∧ (s'.tlb side).nlu = before.nlu) ∨
        (walks ∧ ∃ s₀ s₁ s₂ p e, s.lookup side vpn = (none, s₀) ∧ walk s₀ = .ok (.pte p) s₁ ∧ installs p e s₁ s₂ ∧
          s' = s₂.setTlb side { s₂.tlb side with mini := some (vpn, e) }))) ∧
    (∀ k va' m' s', translate M va acc m s = .raised k va' m' s' → va' = va ∧ m' = m ∧ framed s' ∧
      (s' = { s with draws := s'.draws } ∨
        (walks ∧ ∃ s₀, s.lookup side vpn = (none, s₀) ∧
          ((∃ h, walk s₀ = .ok (.fault k h) s') ∧
              s' = { s with draws := s'.draws, ioAnswers := s'.ioAnswers, ioLog := s'.ioLog } ∨
            ∃ s₁ p e, walk s₀ = .ok (.pte p) s₁ ∧ installs p e s₁ s')))) ∧
    (∀ missed va' m' s', translate M va acc m s = .raised (.tlbMiss missed) va' m' s' →
      M.personality.missPolicy missed.side = .fault) ∧
    (∀ f, translate M va acc m s = .stopped f → walks ∧ (f = .stopNxm ∨ f = .stopEngine)) ∧
    (canonicalVa M va = true → (s.superpage side && inSuperpage M va) = false → walks →
      ∀ s₀, s.lookup side vpn = (none, s₀) →
      (∀ f, walk s₀ = .stopped f → translate M va acc m s = .stopped f) ∧
      (∀ k h s₁, walk s₀ = .ok (.fault k h) s₁ → translate M va acc m s = .raised k va m s₁) ∧
      ∀ p s₁, walk s₀ = .ok (.pte p) s₁ →
        (∀ f, tlbLoad M side vpn p s₁ = .stopped f → translate M va acc m s = .stopped f) ∧
        ∀ e s₂, tlbLoad M side vpn p s₁ = .ok e s₂ →
          let enabled := p.getLsbD ((if acc = .write then 12 else 8) + m.toNat)
          let faultOn := p.getLsbD (if acc = .read then 1 else if acc = .write then 2 else 3)
          (enabled = false → translate M va acc m s = .raised (.accessViolation acc) va m s₂) ∧
          (enabled = true → p.getLsbD 0 = false → translate M va acc m s = .raised (.translationNotValid acc) va m s₂) ∧
          (enabled = true → p.getLsbD 0 = true → faultOn = true →
            translate M va acc m s = .raised (.faultOnReference acc) va m s₂) ∧
          (enabled = true → p.getLsbD 0 = true → faultOn = false →
            translate M va acc m s =
              .ok (BitVec.ofNat 64 ((e.pfn ||| (vpn &&& e.ghMask)).toNat * 2 ^ 13 + va.toNat % 2 ^ 13))
                (s₂.setTlb side { s₂.tlb side with mini := some (vpn, e) })))

/-! ### Memory (20_memory) -/

/-- Memory is a byte array: a byte read after a wide write is the byte written there (R81, which the spec marks as derived
from R70 and R75), and writes and images keep the canonical form. -/
def Obligations.MemoryReadsBack : Prop :=
  ∀ (π : Type) (M : Setup π) (s : State π), Memory.wf s.mem = true →
    (∀ (pa : PhysAddr) (w : Width) (v : Word) (u : Unit) (s' : State π), memWrite M pa w v s = .ok u s' →
      Memory.wf s'.mem = true) ∧
    (∀ origin bytes, Memory.wf (s.loadImage origin bytes).mem = true) ∧
    (∀ (pa : PhysAddr) (v : Word) (k : Nat), k < 8 → 8 ∣ pa.toNat → pa.toNat < M.memSize →
      ∃ s', memWrite M pa .quad v s = .ok () s' ∧
        memRead M (pa + BitVec.ofNat 64 k) .byte s' = .ok ((v.extractLsb' (8 * k) 8).setWidth 64) s')

/-- An aligned access that is routed to RAM lies in RAM whole: translation keeps the alignment and RAM ends at a multiple
of 8 (R72). -/
def Obligations.AlignedAccessesNeverStraddle : Prop :=
  ∀ (π : Type) (M : Setup π) (va : Word) (acc : Access) (m : Mode) (w : Width) (s s' : State π) (pa : PhysAddr),
    w.bytes ∣ va.toNat → translate M va acc m s = .ok pa s' →
    w.bytes ∣ pa.toNat ∧ (pa.toNat < M.memSize → pa.toNat + w.bytes ≤ M.memSize)

/-! ### Reset and the whole machine -/

/-- The values the reset rule states, for any configuration, personality and RAM image (R480), `PC` written with bits 1:0
zero as every write of it is; the fields the rule leaves unspecified are left out. NATIVE's own reset values with them. -/
def Obligations.ResetValues : Prop :=
  (∀ (π : Type) (M : Setup π) (ram : List Host.Cell),
    let s := M.reset ram
    s.pc = M.personality.resetPc &&& ~~~3#64 ∧ s.palMode = M.personality.resetPalMode ∧ s.cm = 0 ∧ s.ipl = 31 ∧
    s.altMode = 0 ∧ s.fpen = false ∧ s.sde = false ∧ s.shdwActive = false ∧ s.ispe = false ∧ s.dspe = false ∧
    s.palBase = 0 ∧ s.lockFlag = false ∧ s.intrFlag = false ∧ s.trapSumm = 0 ∧ s.trapMask = 0 ∧
    s.pcq = List.replicate M.pcqSize 0 ∧ s.pcqP = 0 ∧ (∀ k, s.pcqEntry k = 0) ∧
    (∀ side, (s.tlb side).slots = List.replicate (M.tlbSize side) none ∧ (s.tlb side).nlu = 0 ∧ (s.tlb side).asn = 0 ∧
      (s.tlb side).mini = none) ∧
    s.itbTag = 0 ∧ s.dtbTag = 0 ∧ s.ps = M.personality.resetPrivate ∧ s.mem = ram) ∧
  nativePersonality.resetPc = 0 ∧ nativePersonality.resetPalMode = true ∧
  (let n := nativePersonality.resetPrivate
   n.excSum = 0 ∧ n.excMask = 0 ∧ n.intId = 0 ∧ n.faultKind = 0 ∧ n.faultVa = 0 ∧ n.faultMode = 0 ∧ n.haltReq = false)

/-- The invariant holds at reset: for any configuration R7 admits, any personality that asks for no halt and any RAM image
in canonical form, and at the reset state of the host's machine. That the host's machine is NATIVE's in the standard
configuration with an empty image is the model's choice (log entries 2, 3, 10). -/
def Obligations.ResetMeetsInvariant : Prop :=
  (∀ (π : Type) (M : Setup π) (ram : List Host.Cell), Memory.wf ram = true →
    (M.personality.registers.get M.personality.resetPrivate).haltReq = false → Inv M (M.reset ram)) ∧
  State.reset = nativeSetup.reset [] ∧ Inv nativeSetup State.reset

/-- Every step keeps the invariant, from every state that meets it, and no step from such a state ends in the engine's
internal-consistency stop (R114) or in a configuration stop (R446). -/
def Obligations.EveryStepKeepsInvariant : Prop :=
  ∀ s : State, Inv nativeSetup s →
    (∀ t, step s = .next t → Inv nativeSetup t) ∧ step s ≠ .fault .stopEngine ∧ step s ≠ .fault .stopConfig

/-- Outside kernel and firmware mode no instruction changes the state only firmware may change; it enters firmware at one
of the entry points, or leaves the core outside firmware (R380, R461). -/
def Obligations.UserModeIsConfined : Prop :=
  ∀ (i : Instr) (s t : State), s.palMode = false → s.cm ≠ 0 → s.trapSumm = 0 → s.trapMask = 0 → exec i s = .next t →
    FirmwareStateKept s t ∧
    (t.palMode = true →
      ∃ offset ∈ entryOffsets, t.pc = alignPc (s.palBase + offset.setWidth 64) ∧
        t.excAddr.getLsbD 0 = false)

/-- Which instructions can change each piece of state that few may touch (R24, R26, R27, R28, R30, R32, R33, R35, R36, R37,
R38, R42, R461; memory, by the store rules of 20_memory, 40, 46 and 47), under NATIVE with any configuration and any
collaborators. -/
def Obligations.WhoChangesWhat : Prop :=
  ∀ (M : Setup NativeState) (i : Instr) (s t : State), M.personality = nativePersonality → s.trapSumm = 0 →
    execUnder M i s = .next t →
    (t.cm ≠ s.cm → ∃ rb, i = .hwMtpr rb 0x0003) ∧
    (t.ipl ≠ s.ipl → ∃ rb, i = .hwMtpr rb 0x0005) ∧
    (t.fpen ≠ s.fpen ∨ t.sde ≠ s.sde ∨ t.ispe ≠ s.ispe ∨ t.dspe ≠ s.dspe → ∃ rb, i = .hwMtpr rb 0x0002) ∧
    (t.palBase ≠ s.palBase → ∃ rb, i = .hwMtpr rb 0x0001) ∧
    (t.altMode ≠ s.altMode → ∃ rb, i = .hwMtpr rb 0x0004) ∧
    (t.intrFlag ≠ s.intrFlag → ∃ ra, i = .rs ra ∨ i = .rc ra) ∧
    (t.fpcr ≠ s.fpcr → ∃ fa fb fc fn, i = .itfp fa fb fc fn ∨ i = .fltv fa fb fc fn ∨ i = .flti fa fb fc fn ∨
      i = .fltl fa fb fc fn) ∧
    (t.ps.palTemp ≠ s.ps.palTemp → ∃ rb index, i = .hwMtpr rb index ∧ 0x0040 ≤ index.toNat ∧ index.toNat < 0x0058) ∧
    (t.lockFlag ≠ s.lockFlag →
      (∃ ra rb disp, i = .ldlL ra rb disp ∨ i = .ldqL ra rb disp ∨ i = .stlC ra rb disp ∨ i = .stqC ra rb disp) ∨
      (∃ ra rb q disp, (i = .hwLd ra rb q disp ∨ i = .hwSt ra rb q disp) ∧ q.lock = true) ∨
      (∃ rs mbz, i = .hwRei rs mbz) ∨ ∃ rb, i = .hwMtpr rb 0x000C) ∧
    (t.pcqP ≠ s.pcqP ∨ t.pcq ≠ s.pcq →
      (∃ ra disp, i = .br ra disp ∨ i = .bsr ra disp ∨ i = .blbc ra disp ∨ i = .beq ra disp ∨ i = .blt ra disp ∨
        i = .ble ra disp ∨ i = .blbs ra disp ∨ i = .bne ra disp ∨ i = .bge ra disp ∨ i = .bgt ra disp ∨
        i = .fbeq ra disp ∨ i = .fblt ra disp ∨ i = .fble ra disp ∨ i = .fbne ra disp ∨ i = .fbge ra disp ∨
        i = .fbgt ra disp) ∨
      (∃ ra rb, i = .jmp ra rb ∨ i = .jsr ra rb ∨ i = .ret ra rb ∨ i = .jsrCoroutine ra rb) ∨
      ∃ rs mbz, i = .hwRei rs mbz) ∧
    (t.mem ≠ s.mem →
      (∃ ra rb disp, i = .stb ra rb disp ∨ i = .stw ra rb disp ∨ i = .stl ra rb disp ∨ i = .stq ra rb disp ∨
        i = .stqU ra rb disp ∨ i = .stlC ra rb disp ∨ i = .stqC ra rb disp ∨ i = .stf ra rb disp ∨ i = .stg ra rb disp ∨
        i = .sts ra rb disp ∨ i = .stt ra rb disp) ∨
      ∃ ra rb q disp, i = .hwSt ra rb q disp)

/-! ### Any parameters of the step (00_scope R7, R14; 60_exceptions R441) -/

/-- What holds under every personality, as the model reads the contract of one. The frame of R441: whatever callback runs, it
leaves the history queue, the pending traps, the floating registers and `fpcr` alone, with every register R441 does not list,
and it keeps `PC[1:0]` zero and memory canonical; that a callback is a program of the calls R441 lists and of nothing else is
the model's reading (log entry 10, DEDUCED). It stops the step only in a call of its own, and a missed access of its own is
such a stop, at once, which the model reads from R75, R77 and R130 (log entry 23, DEDUCED), at every address from `MEMSIZE`
up, misaligned or past `2^PA_BITS` too, which is the model's choice (log entry 18, DESIGN CHOICE); a fault it meets is its own
to resolve (R441). The callbacks of NATIVE leave what R442 says. A `Fault` that `CALL_PAL`'s callback answers is dispatched in
the mode `cm`, the model's choice (log entry 24, DESIGN CHOICE), without the callback's writes and with the record of its
accesses, the model's reading (log entry 24, DEDUCED). The core executes the internal-register map under every configuration
and personality (R391); that a personality's private state keeps the private registers of the map in a block is the model's
reading (log entry 10, DEDUCED). -/
def Obligations.PersonalityContract : Prop :=
  (∀ (π α : Type) (M : Setup π) (callback : Callback π α) (s : State π),
    (∀ a t, callback.run M s = .answered a t →
      t.pcq = s.pcq ∧ t.pcqP = s.pcqP ∧ t.trapSumm = s.trapSumm ∧ t.trapMask = s.trapMask ∧ t.fregs = s.fregs ∧
      t.fpcr = s.fpcr ∧ t.intrFlag = s.intrFlag ∧ t.fpen = s.fpen ∧ t.palBase = s.palBase ∧ t.sde = s.sde ∧
      t.ispe = s.ispe ∧ t.dspe = s.dspe ∧ t.altMode = s.altMode ∧ t.itbTag = s.itbTag ∧ t.dtbTag = s.dtbTag ∧
      t.irq = s.irq ∧ t.irqNext = s.irqNext ∧ t.report = s.report ∧
      (s.pc.extractLsb' 0 2 = 0 → t.pc.extractLsb' 0 2 = 0) ∧
      (s.excAddr.getLsbD 1 = false → t.excAddr.getLsbD 1 = false) ∧
      (Memory.wf s.mem = true → Memory.wf t.mem = true)) ∧
    (∀ f, callback.run M s = .stopped f → f = .stopNxm ∨ f = .stopEngine)) ∧
  (∀ (π α : Type) (M : Setup π) (pa : PhysAddr) (w : Width) (v : Word) (next : CallAnswer → Callback π α) (s : State π),
    M.memSize ≤ pa.toNat →
    ((askIo M (.read pa w) s).1 = .miss → (Callback.call (.memRead pa w) next).run M s = .stopped .stopNxm) ∧
    ((askIo M (.write pa w (w.trunc v)) s).1 = .miss →
      (Callback.call (.memWrite pa w v) next).run M s = .stopped .stopNxm)) ∧
  (∀ (π α : Type) (M : Setup π) (va : Word) (w : Width) (v : Word) (m : Mode) (next : CallAnswer → Callback π α)
    (s t : State π) (k : FaultKind) (fva : Word) (fm : Mode),
    (vread M va w m s = .raised k fva fm t →
      (Callback.call (.vread va w m) next).run M s = (next (.fault k fva fm)).run M t) ∧
    (vwrite M va w v m s = .raised k fva fm t →
      (Callback.call (.vwrite va w v m) next).run M s = (next (.fault k fva fm)).run M t)) ∧
  (∀ (M : Setup NativeState) (s : State), M.personality = nativePersonality →
    (∀ level, takeInterrupt M level s =
      .next (State.enterFirmware { s with ps := { s.ps with intId := BitVec.ofNat 5 level.val } } 0x0100 s.pc)) ∧
    (∀ k va m, dispatchFault M k va m s = .next (State.enterFirmware
      { s with ps := { s.ps with faultKind := k.code, faultVa := va, faultMode := m } } k.vector s.pc)) ∧
    dispatchTrap M s = .next (State.enterFirmware
      { s with trapSumm := 0, trapMask := 0, ps := { s.ps with excSum := s.trapSumm, excMask := s.trapMask } } 0x0500 s.pc)) ∧
  (∀ (π : Type) (M : Setup π) (cls : Bool) (n : BitVec 7) (k : FaultKind) (va : Word) (s s' : State π),
    cls = true ∨ s.palMode = true ∨ s.cm = 0 →
    (M.personality.executePrivilegedOpcode (BitVec.ofBool cls ++ n) s).run M s = .answered (.fault k va) s' →
    callPal M 0 cls n s = dispatchFault M k va s.cm
      { s with ioLog := s'.ioLog, ioAnswers := s'.ioAnswers, draws := s'.draws }) ∧
  ∀ (π : Type) (M : Setup π), ReadsMap M ∧ WritesMap M

/-- The parameters of the step (R7, R14). A configuration within the constraints of R7 makes a machine with any personality
and collaborators, and one outside them makes none (93 U21). The host's machine is the machine with the parameters
`nativeSetup`. Under any parameters, every step keeps the invariant and none ends in the engine's internal-consistency
stop; that a personality's callbacks are programs of the calls R441 lists (log entry 10), that a miss of theirs stops the
step (log entry 23) and that their accesses are made as they are asked (log entry 18) are the model's reading and choice. -/
def Obligations.EveryMachineKeepsInvariant : Prop :=
  (∀ (π : Type) (c : Config) (P : Personality π) (fp : BitVec 6 → BitVec 11 → Word → Word → Word → FpAnswer)
    (io : Nat → IoAccess → IoAnswer),
    (c.Valid → ∃ M : Setup π, Setup.ofConfig c P fp io = some M ∧ M.toConfig = c ∧ M.personality = P ∧ M.fp = fp ∧
      M.io = io) ∧
    (¬ c.Valid → Setup.ofConfig c P fp io = none)) ∧
  (∀ (i : Instr) (s : State), exec i s = execUnder nativeSetup i s) ∧
  (∀ s : State, step s = stepUnder nativeSetup s) ∧
  ∀ (π : Type) (M : Setup π) (s : State π), Inv M s →
    (∀ t, stepUnder M s = .next t → Inv M t) ∧ stepUnder M s ≠ .fault .stopEngine
end

