-- ==== Sys2Proof/Laws/State.lean ====
section
/-! SUPPORT. One lemma per field and update of the state: what each named update leaves as it was. -/

namespace Sys2Proof.Machine

variable {π : Type} (s : State π)

/-! ### `setPc`: writes `pc` -/

@[simp] theorem State.setPc_regs (t : Word) : (s.setPc t).regs = s.regs := rfl
@[simp] theorem State.setPc_fregs (t : Word) : (s.setPc t).fregs = s.fregs := rfl
@[simp] theorem State.setPc_pcq (t : Word) : (s.setPc t).pcq = s.pcq := rfl
@[simp] theorem State.setPc_pcqP (t : Word) : (s.setPc t).pcqP = s.pcqP := rfl
@[simp] theorem State.setPc_lockFlag (t : Word) : (s.setPc t).lockFlag = s.lockFlag := rfl
@[simp] theorem State.setPc_intrFlag (t : Word) : (s.setPc t).intrFlag = s.intrFlag := rfl
@[simp] theorem State.setPc_fpcr (t : Word) : (s.setPc t).fpcr = s.fpcr := rfl
@[simp] theorem State.setPc_cm (t : Word) : (s.setPc t).cm = s.cm := rfl
@[simp] theorem State.setPc_palMode (t : Word) : (s.setPc t).palMode = s.palMode := rfl
@[simp] theorem State.setPc_ipl (t : Word) : (s.setPc t).ipl = s.ipl := rfl
@[simp] theorem State.setPc_fpen (t : Word) : (s.setPc t).fpen = s.fpen := rfl
@[simp] theorem State.setPc_excAddr (t : Word) : (s.setPc t).excAddr = s.excAddr := rfl
@[simp] theorem State.setPc_palBase (t : Word) : (s.setPc t).palBase = s.palBase := rfl
@[simp] theorem State.setPc_sde (t : Word) : (s.setPc t).sde = s.sde := rfl
@[simp] theorem State.setPc_shdwActive (t : Word) : (s.setPc t).shdwActive = s.shdwActive := rfl
@[simp] theorem State.setPc_shadow (t : Word) : (s.setPc t).shadow = s.shadow := rfl
@[simp] theorem State.setPc_ispe (t : Word) : (s.setPc t).ispe = s.ispe := rfl
@[simp] theorem State.setPc_dspe (t : Word) : (s.setPc t).dspe = s.dspe := rfl
@[simp] theorem State.setPc_altMode (t : Word) : (s.setPc t).altMode = s.altMode := rfl
@[simp] theorem State.setPc_ps (t : Word) : (s.setPc t).ps = s.ps := rfl
@[simp] theorem State.setPc_trapSumm (t : Word) : (s.setPc t).trapSumm = s.trapSumm := rfl
@[simp] theorem State.setPc_trapMask (t : Word) : (s.setPc t).trapMask = s.trapMask := rfl
@[simp] theorem State.setPc_itlb (t : Word) : (s.setPc t).itlb = s.itlb := rfl
@[simp] theorem State.setPc_dtlb (t : Word) : (s.setPc t).dtlb = s.dtlb := rfl
@[simp] theorem State.setPc_itbTag (t : Word) : (s.setPc t).itbTag = s.itbTag := rfl
@[simp] theorem State.setPc_dtbTag (t : Word) : (s.setPc t).dtbTag = s.dtbTag := rfl
@[simp] theorem State.setPc_mem (t : Word) : (s.setPc t).mem = s.mem := rfl
@[simp] theorem State.setPc_irq (t : Word) : (s.setPc t).irq = s.irq := rfl
@[simp] theorem State.setPc_irqNext (t : Word) : (s.setPc t).irqNext = s.irqNext := rfl
@[simp] theorem State.setPc_ioAnswers (t : Word) : (s.setPc t).ioAnswers = s.ioAnswers := rfl
@[simp] theorem State.setPc_ioLog (t : Word) : (s.setPc t).ioLog = s.ioLog := rfl
@[simp] theorem State.setPc_draws (t : Word) : (s.setPc t).draws = s.draws := rfl
@[simp] theorem State.setPc_report (t : Word) : (s.setPc t).report = s.report := rfl

@[simp] theorem State.setPc_pc (t : Word) : (s.setPc t).pc = alignPc t := rfl

/-! ### `setPrivate`: writes the private registers within `ps` -/

@[simp] theorem State.setPrivate_pc (M : Setup π) (n : NativeState) : (s.setPrivate M n).pc = s.pc := rfl
@[simp] theorem State.setPrivate_regs (M : Setup π) (n : NativeState) : (s.setPrivate M n).regs = s.regs := rfl
@[simp] theorem State.setPrivate_fregs (M : Setup π) (n : NativeState) : (s.setPrivate M n).fregs = s.fregs := rfl
@[simp] theorem State.setPrivate_pcq (M : Setup π) (n : NativeState) : (s.setPrivate M n).pcq = s.pcq := rfl
@[simp] theorem State.setPrivate_pcqP (M : Setup π) (n : NativeState) : (s.setPrivate M n).pcqP = s.pcqP := rfl
@[simp] theorem State.setPrivate_lockFlag (M : Setup π) (n : NativeState) : (s.setPrivate M n).lockFlag = s.lockFlag := rfl
@[simp] theorem State.setPrivate_intrFlag (M : Setup π) (n : NativeState) : (s.setPrivate M n).intrFlag = s.intrFlag := rfl
@[simp] theorem State.setPrivate_fpcr (M : Setup π) (n : NativeState) : (s.setPrivate M n).fpcr = s.fpcr := rfl
@[simp] theorem State.setPrivate_cm (M : Setup π) (n : NativeState) : (s.setPrivate M n).cm = s.cm := rfl
@[simp] theorem State.setPrivate_palMode (M : Setup π) (n : NativeState) : (s.setPrivate M n).palMode = s.palMode := rfl
@[simp] theorem State.setPrivate_ipl (M : Setup π) (n : NativeState) : (s.setPrivate M n).ipl = s.ipl := rfl
@[simp] theorem State.setPrivate_fpen (M : Setup π) (n : NativeState) : (s.setPrivate M n).fpen = s.fpen := rfl
@[simp] theorem State.setPrivate_excAddr (M : Setup π) (n : NativeState) : (s.setPrivate M n).excAddr = s.excAddr := rfl
@[simp] theorem State.setPrivate_palBase (M : Setup π) (n : NativeState) : (s.setPrivate M n).palBase = s.palBase := rfl
@[simp] theorem State.setPrivate_sde (M : Setup π) (n : NativeState) : (s.setPrivate M n).sde = s.sde := rfl
@[simp] theorem State.setPrivate_shdwActive (M : Setup π) (n : NativeState) : (s.setPrivate M n).shdwActive = s.shdwActive := rfl
@[simp] theorem State.setPrivate_shadow (M : Setup π) (n : NativeState) : (s.setPrivate M n).shadow = s.shadow := rfl
@[simp] theorem State.setPrivate_ispe (M : Setup π) (n : NativeState) : (s.setPrivate M n).ispe = s.ispe := rfl
@[simp] theorem State.setPrivate_dspe (M : Setup π) (n : NativeState) : (s.setPrivate M n).dspe = s.dspe := rfl
@[simp] theorem State.setPrivate_altMode (M : Setup π) (n : NativeState) : (s.setPrivate M n).altMode = s.altMode := rfl
@[simp] theorem State.setPrivate_trapSumm (M : Setup π) (n : NativeState) : (s.setPrivate M n).trapSumm = s.trapSumm := rfl
@[simp] theorem State.setPrivate_trapMask (M : Setup π) (n : NativeState) : (s.setPrivate M n).trapMask = s.trapMask := rfl
@[simp] theorem State.setPrivate_itlb (M : Setup π) (n : NativeState) : (s.setPrivate M n).itlb = s.itlb := rfl
@[simp] theorem State.setPrivate_dtlb (M : Setup π) (n : NativeState) : (s.setPrivate M n).dtlb = s.dtlb := rfl
@[simp] theorem State.setPrivate_itbTag (M : Setup π) (n : NativeState) : (s.setPrivate M n).itbTag = s.itbTag := rfl
@[simp] theorem State.setPrivate_dtbTag (M : Setup π) (n : NativeState) : (s.setPrivate M n).dtbTag = s.dtbTag := rfl
@[simp] theorem State.setPrivate_mem (M : Setup π) (n : NativeState) : (s.setPrivate M n).mem = s.mem := rfl
@[simp] theorem State.setPrivate_irq (M : Setup π) (n : NativeState) : (s.setPrivate M n).irq = s.irq := rfl
@[simp] theorem State.setPrivate_irqNext (M : Setup π) (n : NativeState) : (s.setPrivate M n).irqNext = s.irqNext := rfl
@[simp] theorem State.setPrivate_ioAnswers (M : Setup π) (n : NativeState) : (s.setPrivate M n).ioAnswers = s.ioAnswers := rfl
@[simp] theorem State.setPrivate_ioLog (M : Setup π) (n : NativeState) : (s.setPrivate M n).ioLog = s.ioLog := rfl
@[simp] theorem State.setPrivate_draws (M : Setup π) (n : NativeState) : (s.setPrivate M n).draws = s.draws := rfl
@[simp] theorem State.setPrivate_report (M : Setup π) (n : NativeState) : (s.setPrivate M n).report = s.report := rfl
@[simp] theorem State.privateRegisters_setPrivate (M : Setup π) (n : NativeState) :
    (s.setPrivate M n).privateRegisters M = n := M.personality.registers.get_set n s.ps
@[simp] theorem State.setPrivate_privateRegisters (M : Setup π) : s.setPrivate M (s.privateRegisters M) = s := by
  show { s with ps := _ } = s
  rw [State.privateRegisters, M.personality.registers.set_get]
@[simp] theorem State.setPrivate_setPrivate (M : Setup π) (n m : NativeState) :
    (s.setPrivate M m).setPrivate M n = s.setPrivate M n := by
  show { s with ps := M.personality.registers.set n (M.personality.registers.set m s.ps) } = _
  rw [M.personality.registers.set_set]
  rfl

/-! ### `advance`: writes `pc` -/

@[simp] theorem State.advance_regs : s.advance.regs = s.regs := rfl
@[simp] theorem State.advance_fregs : s.advance.fregs = s.fregs := rfl
@[simp] theorem State.advance_pcq : s.advance.pcq = s.pcq := rfl
@[simp] theorem State.advance_pcqP : s.advance.pcqP = s.pcqP := rfl
@[simp] theorem State.advance_lockFlag : s.advance.lockFlag = s.lockFlag := rfl
@[simp] theorem State.advance_intrFlag : s.advance.intrFlag = s.intrFlag := rfl
@[simp] theorem State.advance_fpcr : s.advance.fpcr = s.fpcr := rfl
@[simp] theorem State.advance_cm : s.advance.cm = s.cm := rfl
@[simp] theorem State.advance_palMode : s.advance.palMode = s.palMode := rfl
@[simp] theorem State.advance_ipl : s.advance.ipl = s.ipl := rfl
@[simp] theorem State.advance_fpen : s.advance.fpen = s.fpen := rfl
@[simp] theorem State.advance_excAddr : s.advance.excAddr = s.excAddr := rfl
@[simp] theorem State.advance_palBase : s.advance.palBase = s.palBase := rfl
@[simp] theorem State.advance_sde : s.advance.sde = s.sde := rfl
@[simp] theorem State.advance_shdwActive : s.advance.shdwActive = s.shdwActive := rfl
@[simp] theorem State.advance_shadow : s.advance.shadow = s.shadow := rfl
@[simp] theorem State.advance_ispe : s.advance.ispe = s.ispe := rfl
@[simp] theorem State.advance_dspe : s.advance.dspe = s.dspe := rfl
@[simp] theorem State.advance_altMode : s.advance.altMode = s.altMode := rfl
@[simp] theorem State.advance_ps : s.advance.ps = s.ps := rfl
@[simp] theorem State.advance_trapSumm : s.advance.trapSumm = s.trapSumm := rfl
@[simp] theorem State.advance_trapMask : s.advance.trapMask = s.trapMask := rfl
@[simp] theorem State.advance_itlb : s.advance.itlb = s.itlb := rfl
@[simp] theorem State.advance_dtlb : s.advance.dtlb = s.dtlb := rfl
@[simp] theorem State.advance_itbTag : s.advance.itbTag = s.itbTag := rfl
@[simp] theorem State.advance_dtbTag : s.advance.dtbTag = s.dtbTag := rfl
@[simp] theorem State.advance_mem : s.advance.mem = s.mem := rfl
@[simp] theorem State.advance_irq : s.advance.irq = s.irq := rfl
@[simp] theorem State.advance_irqNext : s.advance.irqNext = s.irqNext := rfl
@[simp] theorem State.advance_ioAnswers : s.advance.ioAnswers = s.ioAnswers := rfl
@[simp] theorem State.advance_ioLog : s.advance.ioLog = s.ioLog := rfl
@[simp] theorem State.advance_draws : s.advance.draws = s.draws := rfl
@[simp] theorem State.advance_report : s.advance.report = s.report := rfl

@[simp] theorem State.advance_pc : s.advance.pc = alignPc (s.pc + 4) := rfl

/-! ### `writeInt`: writes `regs` -/

@[simp] theorem State.writeInt_fregs (r : Reg) (v : Word) : (s.writeInt r v).fregs = s.fregs := by
  unfold State.writeInt; split <;> rfl
@[simp] theorem State.writeInt_pc (r : Reg) (v : Word) : (s.writeInt r v).pc = s.pc := by
  unfold State.writeInt; split <;> rfl
@[simp] theorem State.writeInt_pcq (r : Reg) (v : Word) : (s.writeInt r v).pcq = s.pcq := by
  unfold State.writeInt; split <;> rfl
@[simp] theorem State.writeInt_pcqP (r : Reg) (v : Word) : (s.writeInt r v).pcqP = s.pcqP := by
  unfold State.writeInt; split <;> rfl
@[simp] theorem State.writeInt_lockFlag (r : Reg) (v : Word) : (s.writeInt r v).lockFlag = s.lockFlag := by
  unfold State.writeInt; split <;> rfl
@[simp] theorem State.writeInt_intrFlag (r : Reg) (v : Word) : (s.writeInt r v).intrFlag = s.intrFlag := by
  unfold State.writeInt; split <;> rfl
@[simp] theorem State.writeInt_fpcr (r : Reg) (v : Word) : (s.writeInt r v).fpcr = s.fpcr := by
  unfold State.writeInt; split <;> rfl
@[simp] theorem State.writeInt_cm (r : Reg) (v : Word) : (s.writeInt r v).cm = s.cm := by
  unfold State.writeInt; split <;> rfl
@[simp] theorem State.writeInt_palMode (r : Reg) (v : Word) : (s.writeInt r v).palMode = s.palMode := by
  unfold State.writeInt; split <;> rfl
@[simp] theorem State.writeInt_ipl (r : Reg) (v : Word) : (s.writeInt r v).ipl = s.ipl := by
  unfold State.writeInt; split <;> rfl
@[simp] theorem State.writeInt_fpen (r : Reg) (v : Word) : (s.writeInt r v).fpen = s.fpen := by
  unfold State.writeInt; split <;> rfl
@[simp] theorem State.writeInt_excAddr (r : Reg) (v : Word) : (s.writeInt r v).excAddr = s.excAddr := by
  unfold State.writeInt; split <;> rfl
@[simp] theorem State.writeInt_palBase (r : Reg) (v : Word) : (s.writeInt r v).palBase = s.palBase := by
  unfold State.writeInt; split <;> rfl
@[simp] theorem State.writeInt_sde (r : Reg) (v : Word) : (s.writeInt r v).sde = s.sde := by
  unfold State.writeInt; split <;> rfl
@[simp] theorem State.writeInt_shdwActive (r : Reg) (v : Word) : (s.writeInt r v).shdwActive = s.shdwActive := by
  unfold State.writeInt; split <;> rfl
@[simp] theorem State.writeInt_shadow (r : Reg) (v : Word) : (s.writeInt r v).shadow = s.shadow := by
  unfold State.writeInt; split <;> rfl
@[simp] theorem State.writeInt_ispe (r : Reg) (v : Word) : (s.writeInt r v).ispe = s.ispe := by
  unfold State.writeInt; split <;> rfl
@[simp] theorem State.writeInt_dspe (r : Reg) (v : Word) : (s.writeInt r v).dspe = s.dspe := by
  unfold State.writeInt; split <;> rfl
@[simp] theorem State.writeInt_altMode (r : Reg) (v : Word) : (s.writeInt r v).altMode = s.altMode := by
  unfold State.writeInt; split <;> rfl
@[simp] theorem State.writeInt_ps (r : Reg) (v : Word) : (s.writeInt r v).ps = s.ps := by
  unfold State.writeInt; split <;> rfl
@[simp] theorem State.writeInt_trapSumm (r : Reg) (v : Word) : (s.writeInt r v).trapSumm = s.trapSumm := by
  unfold State.writeInt; split <;> rfl
@[simp] theorem State.writeInt_trapMask (r : Reg) (v : Word) : (s.writeInt r v).trapMask = s.trapMask := by
  unfold State.writeInt; split <;> rfl
@[simp] theorem State.writeInt_itlb (r : Reg) (v : Word) : (s.writeInt r v).itlb = s.itlb := by
  unfold State.writeInt; split <;> rfl
@[simp] theorem State.writeInt_dtlb (r : Reg) (v : Word) : (s.writeInt r v).dtlb = s.dtlb := by
  unfold State.writeInt; split <;> rfl
@[simp] theorem State.writeInt_itbTag (r : Reg) (v : Word) : (s.writeInt r v).itbTag = s.itbTag := by
  unfold State.writeInt; split <;> rfl
@[simp] theorem State.writeInt_dtbTag (r : Reg) (v : Word) : (s.writeInt r v).dtbTag = s.dtbTag := by
  unfold State.writeInt; split <;> rfl
@[simp] theorem State.writeInt_mem (r : Reg) (v : Word) : (s.writeInt r v).mem = s.mem := by
  unfold State.writeInt; split <;> rfl
@[simp] theorem State.writeInt_irq (r : Reg) (v : Word) : (s.writeInt r v).irq = s.irq := by
  unfold State.writeInt; split <;> rfl
@[simp] theorem State.writeInt_irqNext (r : Reg) (v : Word) : (s.writeInt r v).irqNext = s.irqNext := by
  unfold State.writeInt; split <;> rfl
@[simp] theorem State.writeInt_ioAnswers (r : Reg) (v : Word) : (s.writeInt r v).ioAnswers = s.ioAnswers := by
  unfold State.writeInt; split <;> rfl
@[simp] theorem State.writeInt_ioLog (r : Reg) (v : Word) : (s.writeInt r v).ioLog = s.ioLog := by
  unfold State.writeInt; split <;> rfl
@[simp] theorem State.writeInt_draws (r : Reg) (v : Word) : (s.writeInt r v).draws = s.draws := by
  unfold State.writeInt; split <;> rfl
@[simp] theorem State.writeInt_report (r : Reg) (v : Word) : (s.writeInt r v).report = s.report := by
  unfold State.writeInt; split <;> rfl

/-! ### `writeFp`: writes `fregs` -/

@[simp] theorem State.writeFp_regs (r : Reg) (v : Word) : (s.writeFp r v).regs = s.regs := by
  unfold State.writeFp; split <;> rfl
@[simp] theorem State.writeFp_pc (r : Reg) (v : Word) : (s.writeFp r v).pc = s.pc := by
  unfold State.writeFp; split <;> rfl
@[simp] theorem State.writeFp_pcq (r : Reg) (v : Word) : (s.writeFp r v).pcq = s.pcq := by
  unfold State.writeFp; split <;> rfl
@[simp] theorem State.writeFp_pcqP (r : Reg) (v : Word) : (s.writeFp r v).pcqP = s.pcqP := by
  unfold State.writeFp; split <;> rfl
@[simp] theorem State.writeFp_lockFlag (r : Reg) (v : Word) : (s.writeFp r v).lockFlag = s.lockFlag := by
  unfold State.writeFp; split <;> rfl
@[simp] theorem State.writeFp_intrFlag (r : Reg) (v : Word) : (s.writeFp r v).intrFlag = s.intrFlag := by
  unfold State.writeFp; split <;> rfl
@[simp] theorem State.writeFp_fpcr (r : Reg) (v : Word) : (s.writeFp r v).fpcr = s.fpcr := by
  unfold State.writeFp; split <;> rfl
@[simp] theorem State.writeFp_cm (r : Reg) (v : Word) : (s.writeFp r v).cm = s.cm := by
  unfold State.writeFp; split <;> rfl
@[simp] theorem State.writeFp_palMode (r : Reg) (v : Word) : (s.writeFp r v).palMode = s.palMode := by
  unfold State.writeFp; split <;> rfl
@[simp] theorem State.writeFp_ipl (r : Reg) (v : Word) : (s.writeFp r v).ipl = s.ipl := by
  unfold State.writeFp; split <;> rfl
@[simp] theorem State.writeFp_fpen (r : Reg) (v : Word) : (s.writeFp r v).fpen = s.fpen := by
  unfold State.writeFp; split <;> rfl
@[simp] theorem State.writeFp_excAddr (r : Reg) (v : Word) : (s.writeFp r v).excAddr = s.excAddr := by
  unfold State.writeFp; split <;> rfl
@[simp] theorem State.writeFp_palBase (r : Reg) (v : Word) : (s.writeFp r v).palBase = s.palBase := by
  unfold State.writeFp; split <;> rfl
@[simp] theorem State.writeFp_sde (r : Reg) (v : Word) : (s.writeFp r v).sde = s.sde := by
  unfold State.writeFp; split <;> rfl
@[simp] theorem State.writeFp_shdwActive (r : Reg) (v : Word) : (s.writeFp r v).shdwActive = s.shdwActive := by
  unfold State.writeFp; split <;> rfl
@[simp] theorem State.writeFp_shadow (r : Reg) (v : Word) : (s.writeFp r v).shadow = s.shadow := by
  unfold State.writeFp; split <;> rfl
@[simp] theorem State.writeFp_ispe (r : Reg) (v : Word) : (s.writeFp r v).ispe = s.ispe := by
  unfold State.writeFp; split <;> rfl
@[simp] theorem State.writeFp_dspe (r : Reg) (v : Word) : (s.writeFp r v).dspe = s.dspe := by
  unfold State.writeFp; split <;> rfl
@[simp] theorem State.writeFp_altMode (r : Reg) (v : Word) : (s.writeFp r v).altMode = s.altMode := by
  unfold State.writeFp; split <;> rfl
@[simp] theorem State.writeFp_ps (r : Reg) (v : Word) : (s.writeFp r v).ps = s.ps := by
  unfold State.writeFp; split <;> rfl
@[simp] theorem State.writeFp_trapSumm (r : Reg) (v : Word) : (s.writeFp r v).trapSumm = s.trapSumm := by
  unfold State.writeFp; split <;> rfl
@[simp] theorem State.writeFp_trapMask (r : Reg) (v : Word) : (s.writeFp r v).trapMask = s.trapMask := by
  unfold State.writeFp; split <;> rfl
@[simp] theorem State.writeFp_itlb (r : Reg) (v : Word) : (s.writeFp r v).itlb = s.itlb := by
  unfold State.writeFp; split <;> rfl
@[simp] theorem State.writeFp_dtlb (r : Reg) (v : Word) : (s.writeFp r v).dtlb = s.dtlb := by
  unfold State.writeFp; split <;> rfl
@[simp] theorem State.writeFp_itbTag (r : Reg) (v : Word) : (s.writeFp r v).itbTag = s.itbTag := by
  unfold State.writeFp; split <;> rfl
@[simp] theorem State.writeFp_dtbTag (r : Reg) (v : Word) : (s.writeFp r v).dtbTag = s.dtbTag := by
  unfold State.writeFp; split <;> rfl
@[simp] theorem State.writeFp_mem (r : Reg) (v : Word) : (s.writeFp r v).mem = s.mem := by
  unfold State.writeFp; split <;> rfl
@[simp] theorem State.writeFp_irq (r : Reg) (v : Word) : (s.writeFp r v).irq = s.irq := by
  unfold State.writeFp; split <;> rfl
@[simp] theorem State.writeFp_irqNext (r : Reg) (v : Word) : (s.writeFp r v).irqNext = s.irqNext := by
  unfold State.writeFp; split <;> rfl
@[simp] theorem State.writeFp_ioAnswers (r : Reg) (v : Word) : (s.writeFp r v).ioAnswers = s.ioAnswers := by
  unfold State.writeFp; split <;> rfl
@[simp] theorem State.writeFp_ioLog (r : Reg) (v : Word) : (s.writeFp r v).ioLog = s.ioLog := by
  unfold State.writeFp; split <;> rfl
@[simp] theorem State.writeFp_draws (r : Reg) (v : Word) : (s.writeFp r v).draws = s.draws := by
  unfold State.writeFp; split <;> rfl
@[simp] theorem State.writeFp_report (r : Reg) (v : Word) : (s.writeFp r v).report = s.report := by
  unfold State.writeFp; split <;> rfl

/-! ### `pushPc`: writes the history queue -/

@[simp] theorem State.pushPc_regs (v : Word) : (s.pushPc v).regs = s.regs := rfl
@[simp] theorem State.pushPc_fregs (v : Word) : (s.pushPc v).fregs = s.fregs := rfl
@[simp] theorem State.pushPc_pc (v : Word) : (s.pushPc v).pc = s.pc := rfl
@[simp] theorem State.pushPc_lockFlag (v : Word) : (s.pushPc v).lockFlag = s.lockFlag := rfl
@[simp] theorem State.pushPc_intrFlag (v : Word) : (s.pushPc v).intrFlag = s.intrFlag := rfl
@[simp] theorem State.pushPc_fpcr (v : Word) : (s.pushPc v).fpcr = s.fpcr := rfl
@[simp] theorem State.pushPc_cm (v : Word) : (s.pushPc v).cm = s.cm := rfl
@[simp] theorem State.pushPc_palMode (v : Word) : (s.pushPc v).palMode = s.palMode := rfl
@[simp] theorem State.pushPc_ipl (v : Word) : (s.pushPc v).ipl = s.ipl := rfl
@[simp] theorem State.pushPc_fpen (v : Word) : (s.pushPc v).fpen = s.fpen := rfl
@[simp] theorem State.pushPc_excAddr (v : Word) : (s.pushPc v).excAddr = s.excAddr := rfl
@[simp] theorem State.pushPc_palBase (v : Word) : (s.pushPc v).palBase = s.palBase := rfl
@[simp] theorem State.pushPc_sde (v : Word) : (s.pushPc v).sde = s.sde := rfl
@[simp] theorem State.pushPc_shdwActive (v : Word) : (s.pushPc v).shdwActive = s.shdwActive := rfl
@[simp] theorem State.pushPc_shadow (v : Word) : (s.pushPc v).shadow = s.shadow := rfl
@[simp] theorem State.pushPc_ispe (v : Word) : (s.pushPc v).ispe = s.ispe := rfl
@[simp] theorem State.pushPc_dspe (v : Word) : (s.pushPc v).dspe = s.dspe := rfl
@[simp] theorem State.pushPc_altMode (v : Word) : (s.pushPc v).altMode = s.altMode := rfl
@[simp] theorem State.pushPc_ps (v : Word) : (s.pushPc v).ps = s.ps := rfl
@[simp] theorem State.pushPc_trapSumm (v : Word) : (s.pushPc v).trapSumm = s.trapSumm := rfl
@[simp] theorem State.pushPc_trapMask (v : Word) : (s.pushPc v).trapMask = s.trapMask := rfl
@[simp] theorem State.pushPc_itlb (v : Word) : (s.pushPc v).itlb = s.itlb := rfl
@[simp] theorem State.pushPc_dtlb (v : Word) : (s.pushPc v).dtlb = s.dtlb := rfl
@[simp] theorem State.pushPc_itbTag (v : Word) : (s.pushPc v).itbTag = s.itbTag := rfl
@[simp] theorem State.pushPc_dtbTag (v : Word) : (s.pushPc v).dtbTag = s.dtbTag := rfl
@[simp] theorem State.pushPc_mem (v : Word) : (s.pushPc v).mem = s.mem := rfl
@[simp] theorem State.pushPc_irq (v : Word) : (s.pushPc v).irq = s.irq := rfl
@[simp] theorem State.pushPc_irqNext (v : Word) : (s.pushPc v).irqNext = s.irqNext := rfl
@[simp] theorem State.pushPc_ioAnswers (v : Word) : (s.pushPc v).ioAnswers = s.ioAnswers := rfl
@[simp] theorem State.pushPc_ioLog (v : Word) : (s.pushPc v).ioLog = s.ioLog := rfl
@[simp] theorem State.pushPc_draws (v : Word) : (s.pushPc v).draws = s.draws := rfl
@[simp] theorem State.pushPc_report (v : Word) : (s.pushPc v).report = s.report := rfl

@[simp] theorem State.pushPc_pcqP (v : Word) : (s.pushPc v).pcqP = (s.pcqP + s.pcq.length - 1) % s.pcq.length := rfl

/-! ### `trap`: accumulates trap causes -/

@[simp] theorem State.trap_regs (bits : BitVec 7) (reg : BitVec 6) : (s.trap bits reg).regs = s.regs := rfl
@[simp] theorem State.trap_fregs (bits : BitVec 7) (reg : BitVec 6) : (s.trap bits reg).fregs = s.fregs := rfl
@[simp] theorem State.trap_pc (bits : BitVec 7) (reg : BitVec 6) : (s.trap bits reg).pc = s.pc := rfl
@[simp] theorem State.trap_pcq (bits : BitVec 7) (reg : BitVec 6) : (s.trap bits reg).pcq = s.pcq := rfl
@[simp] theorem State.trap_pcqP (bits : BitVec 7) (reg : BitVec 6) : (s.trap bits reg).pcqP = s.pcqP := rfl
@[simp] theorem State.trap_lockFlag (bits : BitVec 7) (reg : BitVec 6) : (s.trap bits reg).lockFlag = s.lockFlag := rfl
@[simp] theorem State.trap_intrFlag (bits : BitVec 7) (reg : BitVec 6) : (s.trap bits reg).intrFlag = s.intrFlag := rfl
@[simp] theorem State.trap_fpcr (bits : BitVec 7) (reg : BitVec 6) : (s.trap bits reg).fpcr = s.fpcr := rfl
@[simp] theorem State.trap_cm (bits : BitVec 7) (reg : BitVec 6) : (s.trap bits reg).cm = s.cm := rfl
@[simp] theorem State.trap_palMode (bits : BitVec 7) (reg : BitVec 6) : (s.trap bits reg).palMode = s.palMode := rfl
@[simp] theorem State.trap_ipl (bits : BitVec 7) (reg : BitVec 6) : (s.trap bits reg).ipl = s.ipl := rfl
@[simp] theorem State.trap_fpen (bits : BitVec 7) (reg : BitVec 6) : (s.trap bits reg).fpen = s.fpen := rfl
@[simp] theorem State.trap_excAddr (bits : BitVec 7) (reg : BitVec 6) : (s.trap bits reg).excAddr = s.excAddr := rfl
@[simp] theorem State.trap_palBase (bits : BitVec 7) (reg : BitVec 6) : (s.trap bits reg).palBase = s.palBase := rfl
@[simp] theorem State.trap_sde (bits : BitVec 7) (reg : BitVec 6) : (s.trap bits reg).sde = s.sde := rfl
@[simp] theorem State.trap_shdwActive (bits : BitVec 7) (reg : BitVec 6) : (s.trap bits reg).shdwActive = s.shdwActive := rfl
@[simp] theorem State.trap_shadow (bits : BitVec 7) (reg : BitVec 6) : (s.trap bits reg).shadow = s.shadow := rfl
@[simp] theorem State.trap_ispe (bits : BitVec 7) (reg : BitVec 6) : (s.trap bits reg).ispe = s.ispe := rfl
@[simp] theorem State.trap_dspe (bits : BitVec 7) (reg : BitVec 6) : (s.trap bits reg).dspe = s.dspe := rfl
@[simp] theorem State.trap_altMode (bits : BitVec 7) (reg : BitVec 6) : (s.trap bits reg).altMode = s.altMode := rfl
@[simp] theorem State.trap_ps (bits : BitVec 7) (reg : BitVec 6) : (s.trap bits reg).ps = s.ps := rfl
@[simp] theorem State.trap_itlb (bits : BitVec 7) (reg : BitVec 6) : (s.trap bits reg).itlb = s.itlb := rfl
@[simp] theorem State.trap_dtlb (bits : BitVec 7) (reg : BitVec 6) : (s.trap bits reg).dtlb = s.dtlb := rfl
@[simp] theorem State.trap_itbTag (bits : BitVec 7) (reg : BitVec 6) : (s.trap bits reg).itbTag = s.itbTag := rfl
@[simp] theorem State.trap_dtbTag (bits : BitVec 7) (reg : BitVec 6) : (s.trap bits reg).dtbTag = s.dtbTag := rfl
@[simp] theorem State.trap_mem (bits : BitVec 7) (reg : BitVec 6) : (s.trap bits reg).mem = s.mem := rfl
@[simp] theorem State.trap_irq (bits : BitVec 7) (reg : BitVec 6) : (s.trap bits reg).irq = s.irq := rfl
@[simp] theorem State.trap_irqNext (bits : BitVec 7) (reg : BitVec 6) : (s.trap bits reg).irqNext = s.irqNext := rfl
@[simp] theorem State.trap_ioAnswers (bits : BitVec 7) (reg : BitVec 6) : (s.trap bits reg).ioAnswers = s.ioAnswers := rfl
@[simp] theorem State.trap_ioLog (bits : BitVec 7) (reg : BitVec 6) : (s.trap bits reg).ioLog = s.ioLog := rfl
@[simp] theorem State.trap_draws (bits : BitVec 7) (reg : BitVec 6) : (s.trap bits reg).draws = s.draws := rfl
@[simp] theorem State.trap_report (bits : BitVec 7) (reg : BitVec 6) : (s.trap bits reg).report = s.report := rfl

/-! ### `setTlb`: writes one table -/

@[simp] theorem State.setTlb_regs (side : Side) (t : Tlb) : (s.setTlb side t).regs = s.regs := by cases side <;> rfl
@[simp] theorem State.setTlb_fregs (side : Side) (t : Tlb) : (s.setTlb side t).fregs = s.fregs := by cases side <;> rfl
@[simp] theorem State.setTlb_pc (side : Side) (t : Tlb) : (s.setTlb side t).pc = s.pc := by cases side <;> rfl
@[simp] theorem State.setTlb_pcq (side : Side) (t : Tlb) : (s.setTlb side t).pcq = s.pcq := by cases side <;> rfl
@[simp] theorem State.setTlb_pcqP (side : Side) (t : Tlb) : (s.setTlb side t).pcqP = s.pcqP := by cases side <;> rfl
@[simp] theorem State.setTlb_lockFlag (side : Side) (t : Tlb) : (s.setTlb side t).lockFlag = s.lockFlag := by cases side <;> rfl
@[simp] theorem State.setTlb_intrFlag (side : Side) (t : Tlb) : (s.setTlb side t).intrFlag = s.intrFlag := by cases side <;> rfl
@[simp] theorem State.setTlb_fpcr (side : Side) (t : Tlb) : (s.setTlb side t).fpcr = s.fpcr := by cases side <;> rfl
@[simp] theorem State.setTlb_cm (side : Side) (t : Tlb) : (s.setTlb side t).cm = s.cm := by cases side <;> rfl
@[simp] theorem State.setTlb_palMode (side : Side) (t : Tlb) : (s.setTlb side t).palMode = s.palMode := by cases side <;> rfl
@[simp] theorem State.setTlb_ipl (side : Side) (t : Tlb) : (s.setTlb side t).ipl = s.ipl := by cases side <;> rfl
@[simp] theorem State.setTlb_fpen (side : Side) (t : Tlb) : (s.setTlb side t).fpen = s.fpen := by cases side <;> rfl
@[simp] theorem State.setTlb_excAddr (side : Side) (t : Tlb) : (s.setTlb side t).excAddr = s.excAddr := by cases side <;> rfl
@[simp] theorem State.setTlb_palBase (side : Side) (t : Tlb) : (s.setTlb side t).palBase = s.palBase := by cases side <;> rfl
@[simp] theorem State.setTlb_sde (side : Side) (t : Tlb) : (s.setTlb side t).sde = s.sde := by cases side <;> rfl
@[simp] theorem State.setTlb_shdwActive (side : Side) (t : Tlb) : (s.setTlb side t).shdwActive = s.shdwActive := by cases side <;> rfl
@[simp] theorem State.setTlb_shadow (side : Side) (t : Tlb) : (s.setTlb side t).shadow = s.shadow := by cases side <;> rfl
@[simp] theorem State.setTlb_ispe (side : Side) (t : Tlb) : (s.setTlb side t).ispe = s.ispe := by cases side <;> rfl
@[simp] theorem State.setTlb_dspe (side : Side) (t : Tlb) : (s.setTlb side t).dspe = s.dspe := by cases side <;> rfl
@[simp] theorem State.setTlb_altMode (side : Side) (t : Tlb) : (s.setTlb side t).altMode = s.altMode := by cases side <;> rfl
@[simp] theorem State.setTlb_ps (side : Side) (t : Tlb) : (s.setTlb side t).ps = s.ps := by cases side <;> rfl
@[simp] theorem State.setTlb_trapSumm (side : Side) (t : Tlb) : (s.setTlb side t).trapSumm = s.trapSumm := by cases side <;> rfl
@[simp] theorem State.setTlb_trapMask (side : Side) (t : Tlb) : (s.setTlb side t).trapMask = s.trapMask := by cases side <;> rfl
@[simp] theorem State.setTlb_itbTag (side : Side) (t : Tlb) : (s.setTlb side t).itbTag = s.itbTag := by cases side <;> rfl
@[simp] theorem State.setTlb_dtbTag (side : Side) (t : Tlb) : (s.setTlb side t).dtbTag = s.dtbTag := by cases side <;> rfl
@[simp] theorem State.setTlb_mem (side : Side) (t : Tlb) : (s.setTlb side t).mem = s.mem := by cases side <;> rfl
@[simp] theorem State.setTlb_irq (side : Side) (t : Tlb) : (s.setTlb side t).irq = s.irq := by cases side <;> rfl
@[simp] theorem State.setTlb_irqNext (side : Side) (t : Tlb) : (s.setTlb side t).irqNext = s.irqNext := by cases side <;> rfl
@[simp] theorem State.setTlb_ioAnswers (side : Side) (t : Tlb) : (s.setTlb side t).ioAnswers = s.ioAnswers := by cases side <;> rfl
@[simp] theorem State.setTlb_ioLog (side : Side) (t : Tlb) : (s.setTlb side t).ioLog = s.ioLog := by cases side <;> rfl
@[simp] theorem State.setTlb_draws (side : Side) (t : Tlb) : (s.setTlb side t).draws = s.draws := by cases side <;> rfl
@[simp] theorem State.setTlb_report (side : Side) (t : Tlb) : (s.setTlb side t).report = s.report := by cases side <;> rfl

@[simp] theorem State.setTlb_tlb_same (side : Side) (t : Tlb) : (s.setTlb side t).tlb side = t := by cases side <;> rfl
theorem State.setTlb_tlb_other {side side' : Side} (h : side' ≠ side) (t : Tlb) :
    (s.setTlb side t).tlb side' = s.tlb side' := by cases side <;> cases side' <;> first | rfl | exact absurd rfl h
@[simp] theorem State.setTlb_tlb_self (side : Side) : s.setTlb side (s.tlb side) = s := by cases side <;> rfl

/-! ### `swapShadow`: swaps one register with its cell -/

@[simp] theorem State.swapShadow_fregs (p : Reg × Fin 8) : (s.swapShadow p).fregs = s.fregs := by
  simp [State.swapShadow]
@[simp] theorem State.swapShadow_pc (p : Reg × Fin 8) : (s.swapShadow p).pc = s.pc := by
  simp [State.swapShadow]
@[simp] theorem State.swapShadow_pcq (p : Reg × Fin 8) : (s.swapShadow p).pcq = s.pcq := by
  simp [State.swapShadow]
@[simp] theorem State.swapShadow_pcqP (p : Reg × Fin 8) : (s.swapShadow p).pcqP = s.pcqP := by
  simp [State.swapShadow]
@[simp] theorem State.swapShadow_lockFlag (p : Reg × Fin 8) : (s.swapShadow p).lockFlag = s.lockFlag := by
  simp [State.swapShadow]
@[simp] theorem State.swapShadow_intrFlag (p : Reg × Fin 8) : (s.swapShadow p).intrFlag = s.intrFlag := by
  simp [State.swapShadow]
@[simp] theorem State.swapShadow_fpcr (p : Reg × Fin 8) : (s.swapShadow p).fpcr = s.fpcr := by
  simp [State.swapShadow]
@[simp] theorem State.swapShadow_cm (p : Reg × Fin 8) : (s.swapShadow p).cm = s.cm := by
  simp [State.swapShadow]
@[simp] theorem State.swapShadow_palMode (p : Reg × Fin 8) : (s.swapShadow p).palMode = s.palMode := by
  simp [State.swapShadow]
@[simp] theorem State.swapShadow_ipl (p : Reg × Fin 8) : (s.swapShadow p).ipl = s.ipl := by
  simp [State.swapShadow]
@[simp] theorem State.swapShadow_fpen (p : Reg × Fin 8) : (s.swapShadow p).fpen = s.fpen := by
  simp [State.swapShadow]
@[simp] theorem State.swapShadow_excAddr (p : Reg × Fin 8) : (s.swapShadow p).excAddr = s.excAddr := by
  simp [State.swapShadow]
@[simp] theorem State.swapShadow_palBase (p : Reg × Fin 8) : (s.swapShadow p).palBase = s.palBase := by
  simp [State.swapShadow]
@[simp] theorem State.swapShadow_sde (p : Reg × Fin 8) : (s.swapShadow p).sde = s.sde := by
  simp [State.swapShadow]
@[simp] theorem State.swapShadow_shdwActive (p : Reg × Fin 8) : (s.swapShadow p).shdwActive = s.shdwActive := by
  simp [State.swapShadow]
@[simp] theorem State.swapShadow_ispe (p : Reg × Fin 8) : (s.swapShadow p).ispe = s.ispe := by
  simp [State.swapShadow]
@[simp] theorem State.swapShadow_dspe (p : Reg × Fin 8) : (s.swapShadow p).dspe = s.dspe := by
  simp [State.swapShadow]
@[simp] theorem State.swapShadow_altMode (p : Reg × Fin 8) : (s.swapShadow p).altMode = s.altMode := by
  simp [State.swapShadow]
@[simp] theorem State.swapShadow_ps (p : Reg × Fin 8) : (s.swapShadow p).ps = s.ps := by
  simp [State.swapShadow]
@[simp] theorem State.swapShadow_trapSumm (p : Reg × Fin 8) : (s.swapShadow p).trapSumm = s.trapSumm := by
  simp [State.swapShadow]
@[simp] theorem State.swapShadow_trapMask (p : Reg × Fin 8) : (s.swapShadow p).trapMask = s.trapMask := by
  simp [State.swapShadow]
@[simp] theorem State.swapShadow_itlb (p : Reg × Fin 8) : (s.swapShadow p).itlb = s.itlb := by
  simp [State.swapShadow]
@[simp] theorem State.swapShadow_dtlb (p : Reg × Fin 8) : (s.swapShadow p).dtlb = s.dtlb := by
  simp [State.swapShadow]
@[simp] theorem State.swapShadow_itbTag (p : Reg × Fin 8) : (s.swapShadow p).itbTag = s.itbTag := by
  simp [State.swapShadow]
@[simp] theorem State.swapShadow_dtbTag (p : Reg × Fin 8) : (s.swapShadow p).dtbTag = s.dtbTag := by
  simp [State.swapShadow]
@[simp] theorem State.swapShadow_mem (p : Reg × Fin 8) : (s.swapShadow p).mem = s.mem := by
  simp [State.swapShadow]
@[simp] theorem State.swapShadow_irq (p : Reg × Fin 8) : (s.swapShadow p).irq = s.irq := by
  simp [State.swapShadow]
@[simp] theorem State.swapShadow_irqNext (p : Reg × Fin 8) : (s.swapShadow p).irqNext = s.irqNext := by
  simp [State.swapShadow]
@[simp] theorem State.swapShadow_ioAnswers (p : Reg × Fin 8) : (s.swapShadow p).ioAnswers = s.ioAnswers := by
  simp [State.swapShadow]
@[simp] theorem State.swapShadow_ioLog (p : Reg × Fin 8) : (s.swapShadow p).ioLog = s.ioLog := by
  simp [State.swapShadow]
@[simp] theorem State.swapShadow_draws (p : Reg × Fin 8) : (s.swapShadow p).draws = s.draws := by
  simp [State.swapShadow]
@[simp] theorem State.swapShadow_report (p : Reg × Fin 8) : (s.swapShadow p).report = s.report := by
  simp [State.swapShadow]

/-! ### `exchange`: swaps the shadow set -/

@[simp] theorem State.exchange_fregs : (s.exchange).fregs = s.fregs := by
  simp [State.exchange, shadowSet]
@[simp] theorem State.exchange_pc : (s.exchange).pc = s.pc := by
  simp [State.exchange, shadowSet]
@[simp] theorem State.exchange_pcq : (s.exchange).pcq = s.pcq := by
  simp [State.exchange, shadowSet]
@[simp] theorem State.exchange_pcqP : (s.exchange).pcqP = s.pcqP := by
  simp [State.exchange, shadowSet]
@[simp] theorem State.exchange_lockFlag : (s.exchange).lockFlag = s.lockFlag := by
  simp [State.exchange, shadowSet]
@[simp] theorem State.exchange_intrFlag : (s.exchange).intrFlag = s.intrFlag := by
  simp [State.exchange, shadowSet]
@[simp] theorem State.exchange_fpcr : (s.exchange).fpcr = s.fpcr := by
  simp [State.exchange, shadowSet]
@[simp] theorem State.exchange_cm : (s.exchange).cm = s.cm := by
  simp [State.exchange, shadowSet]
@[simp] theorem State.exchange_palMode : (s.exchange).palMode = s.palMode := by
  simp [State.exchange, shadowSet]
@[simp] theorem State.exchange_ipl : (s.exchange).ipl = s.ipl := by
  simp [State.exchange, shadowSet]
@[simp] theorem State.exchange_fpen : (s.exchange).fpen = s.fpen := by
  simp [State.exchange, shadowSet]
@[simp] theorem State.exchange_excAddr : (s.exchange).excAddr = s.excAddr := by
  simp [State.exchange, shadowSet]
@[simp] theorem State.exchange_palBase : (s.exchange).palBase = s.palBase := by
  simp [State.exchange, shadowSet]
@[simp] theorem State.exchange_sde : (s.exchange).sde = s.sde := by
  simp [State.exchange, shadowSet]
@[simp] theorem State.exchange_ispe : (s.exchange).ispe = s.ispe := by
  simp [State.exchange, shadowSet]
@[simp] theorem State.exchange_dspe : (s.exchange).dspe = s.dspe := by
  simp [State.exchange, shadowSet]
@[simp] theorem State.exchange_altMode : (s.exchange).altMode = s.altMode := by
  simp [State.exchange, shadowSet]
@[simp] theorem State.exchange_ps : (s.exchange).ps = s.ps := by
  simp [State.exchange, shadowSet]
@[simp] theorem State.exchange_trapSumm : (s.exchange).trapSumm = s.trapSumm := by
  simp [State.exchange, shadowSet]
@[simp] theorem State.exchange_trapMask : (s.exchange).trapMask = s.trapMask := by
  simp [State.exchange, shadowSet]
@[simp] theorem State.exchange_itlb : (s.exchange).itlb = s.itlb := by
  simp [State.exchange, shadowSet]
@[simp] theorem State.exchange_dtlb : (s.exchange).dtlb = s.dtlb := by
  simp [State.exchange, shadowSet]
@[simp] theorem State.exchange_itbTag : (s.exchange).itbTag = s.itbTag := by
  simp [State.exchange, shadowSet]
@[simp] theorem State.exchange_dtbTag : (s.exchange).dtbTag = s.dtbTag := by
  simp [State.exchange, shadowSet]
@[simp] theorem State.exchange_mem : (s.exchange).mem = s.mem := by
  simp [State.exchange, shadowSet]
@[simp] theorem State.exchange_irq : (s.exchange).irq = s.irq := by
  simp [State.exchange, shadowSet]
@[simp] theorem State.exchange_irqNext : (s.exchange).irqNext = s.irqNext := by
  simp [State.exchange, shadowSet]
@[simp] theorem State.exchange_ioAnswers : (s.exchange).ioAnswers = s.ioAnswers := by
  simp [State.exchange, shadowSet]
@[simp] theorem State.exchange_ioLog : (s.exchange).ioLog = s.ioLog := by
  simp [State.exchange, shadowSet]
@[simp] theorem State.exchange_draws : (s.exchange).draws = s.draws := by
  simp [State.exchange, shadowSet]
@[simp] theorem State.exchange_report : (s.exchange).report = s.report := by
  simp [State.exchange, shadowSet]

@[simp] theorem State.exchange_shdwActive : s.exchange.shdwActive = !s.shdwActive := by
  simp [State.exchange, shadowSet]

/-! ### `enterFirmware`: enters firmware (R421: what entry leaves alone) -/

@[simp] theorem State.enterFirmware_fregs (offset : BitVec 15) (resume : Word) : (s.enterFirmware offset resume).fregs = s.fregs := by
  simp only [State.enterFirmware]; split <;> simp
@[simp] theorem State.enterFirmware_pcq (offset : BitVec 15) (resume : Word) : (s.enterFirmware offset resume).pcq = s.pcq := by
  simp only [State.enterFirmware]; split <;> simp
@[simp] theorem State.enterFirmware_pcqP (offset : BitVec 15) (resume : Word) : (s.enterFirmware offset resume).pcqP = s.pcqP := by
  simp only [State.enterFirmware]; split <;> simp
@[simp] theorem State.enterFirmware_lockFlag (offset : BitVec 15) (resume : Word) : (s.enterFirmware offset resume).lockFlag = s.lockFlag := by
  simp only [State.enterFirmware]; split <;> simp
@[simp] theorem State.enterFirmware_intrFlag (offset : BitVec 15) (resume : Word) : (s.enterFirmware offset resume).intrFlag = s.intrFlag := by
  simp only [State.enterFirmware]; split <;> simp
@[simp] theorem State.enterFirmware_fpcr (offset : BitVec 15) (resume : Word) : (s.enterFirmware offset resume).fpcr = s.fpcr := by
  simp only [State.enterFirmware]; split <;> simp
@[simp] theorem State.enterFirmware_cm (offset : BitVec 15) (resume : Word) : (s.enterFirmware offset resume).cm = s.cm := by
  simp only [State.enterFirmware]; split <;> simp
@[simp] theorem State.enterFirmware_ipl (offset : BitVec 15) (resume : Word) : (s.enterFirmware offset resume).ipl = s.ipl := by
  simp only [State.enterFirmware]; split <;> simp
@[simp] theorem State.enterFirmware_fpen (offset : BitVec 15) (resume : Word) : (s.enterFirmware offset resume).fpen = s.fpen := by
  simp only [State.enterFirmware]; split <;> simp
@[simp] theorem State.enterFirmware_palBase (offset : BitVec 15) (resume : Word) : (s.enterFirmware offset resume).palBase = s.palBase := by
  simp only [State.enterFirmware]; split <;> simp
@[simp] theorem State.enterFirmware_sde (offset : BitVec 15) (resume : Word) : (s.enterFirmware offset resume).sde = s.sde := by
  simp only [State.enterFirmware]; split <;> simp
@[simp] theorem State.enterFirmware_ispe (offset : BitVec 15) (resume : Word) : (s.enterFirmware offset resume).ispe = s.ispe := by
  simp only [State.enterFirmware]; split <;> simp
@[simp] theorem State.enterFirmware_dspe (offset : BitVec 15) (resume : Word) : (s.enterFirmware offset resume).dspe = s.dspe := by
  simp only [State.enterFirmware]; split <;> simp
@[simp] theorem State.enterFirmware_altMode (offset : BitVec 15) (resume : Word) : (s.enterFirmware offset resume).altMode = s.altMode := by
  simp only [State.enterFirmware]; split <;> simp
@[simp] theorem State.enterFirmware_ps (offset : BitVec 15) (resume : Word) : (s.enterFirmware offset resume).ps = s.ps := by
  simp only [State.enterFirmware]; split <;> simp
@[simp] theorem State.enterFirmware_trapSumm (offset : BitVec 15) (resume : Word) : (s.enterFirmware offset resume).trapSumm = s.trapSumm := by
  simp only [State.enterFirmware]; split <;> simp
@[simp] theorem State.enterFirmware_trapMask (offset : BitVec 15) (resume : Word) : (s.enterFirmware offset resume).trapMask = s.trapMask := by
  simp only [State.enterFirmware]; split <;> simp
@[simp] theorem State.enterFirmware_itlb (offset : BitVec 15) (resume : Word) : (s.enterFirmware offset resume).itlb = s.itlb := by
  simp only [State.enterFirmware]; split <;> simp
@[simp] theorem State.enterFirmware_dtlb (offset : BitVec 15) (resume : Word) : (s.enterFirmware offset resume).dtlb = s.dtlb := by
  simp only [State.enterFirmware]; split <;> simp
@[simp] theorem State.enterFirmware_itbTag (offset : BitVec 15) (resume : Word) : (s.enterFirmware offset resume).itbTag = s.itbTag := by
  simp only [State.enterFirmware]; split <;> simp
@[simp] theorem State.enterFirmware_dtbTag (offset : BitVec 15) (resume : Word) : (s.enterFirmware offset resume).dtbTag = s.dtbTag := by
  simp only [State.enterFirmware]; split <;> simp
@[simp] theorem State.enterFirmware_mem (offset : BitVec 15) (resume : Word) : (s.enterFirmware offset resume).mem = s.mem := by
  simp only [State.enterFirmware]; split <;> simp
@[simp] theorem State.enterFirmware_irq (offset : BitVec 15) (resume : Word) : (s.enterFirmware offset resume).irq = s.irq := by
  simp only [State.enterFirmware]; split <;> simp
@[simp] theorem State.enterFirmware_irqNext (offset : BitVec 15) (resume : Word) : (s.enterFirmware offset resume).irqNext = s.irqNext := by
  simp only [State.enterFirmware]; split <;> simp
@[simp] theorem State.enterFirmware_ioAnswers (offset : BitVec 15) (resume : Word) : (s.enterFirmware offset resume).ioAnswers = s.ioAnswers := by
  simp only [State.enterFirmware]; split <;> simp
@[simp] theorem State.enterFirmware_ioLog (offset : BitVec 15) (resume : Word) : (s.enterFirmware offset resume).ioLog = s.ioLog := by
  simp only [State.enterFirmware]; split <;> simp
@[simp] theorem State.enterFirmware_draws (offset : BitVec 15) (resume : Word) : (s.enterFirmware offset resume).draws = s.draws := by
  simp only [State.enterFirmware]; split <;> simp
@[simp] theorem State.enterFirmware_report (offset : BitVec 15) (resume : Word) : (s.enterFirmware offset resume).report = s.report := by
  simp only [State.enterFirmware]; split <;> simp

/-! ### The record of accesses and the latches of NATIVE -/

@[simp] theorem State.withAccessRecord_eq {π : Type} (s t : State π) :
    s.withAccessRecord t = { s with ioAnswers := t.ioAnswers, ioLog := t.ioLog, draws := t.draws } := rfl

@[simp] theorem NativeState.latchInterrupt_eq (level : Nat) (n : NativeState) :
    n.latchInterrupt level = { n with intId := BitVec.ofNat 5 level } := rfl

@[simp] theorem NativeState.latchTrap_eq (summ : BitVec 7) (mask : Word) (n : NativeState) :
    n.latchTrap summ mask = { n with excSum := summ, excMask := mask } := rfl

@[simp] theorem NativeState.latchFault_eq (k : FaultKind) (va : Word) (m : Mode) (n : NativeState) :
    n.latchFault k va m = { n with faultKind := k.code, faultVa := va, faultMode := m } := rfl

end Sys2Proof.Machine
end

