-- ==== Sys2Proof/Laws/Callback.lean ====
section
/-! SUPPORT. The run of a callback (R440, R441): its equations, the induction over it, and the callbacks of NATIVE. The
meanings the host dispatches to are those under its parameters. -/

namespace Sys2Proof.Machine

variable {π α : Type} {M : Setup π} {s : State π}

/-! ### The equations of a run -/

@[simp] theorem run_answer (a : α) : (Callback.answer a).run M s = .answered a s := rfl

@[simp] theorem run_inspect (next : State π → Callback π α) : (Callback.inspect next).run M s = (next s).run M s := rfl

@[simp] theorem run_update (u : CallbackUpdate π) (next : Callback π α) :
    (Callback.update u next).run M s = next.run M (u.apply M s) := rfl

theorem run_call (c : CallbackCall) (next : CallAnswer → Callback π α) :
    (Callback.call c next).run M s = (c.perform M s).resume fun a s' => (next a).run M s' := rfl

@[simp] theorem resume_ok {β : Type} (v : Word) (f : CallAnswer → State π → Run π β) :
    (Result.ok v s).resume f = f (.value v) s := rfl

@[simp] theorem resume_raised {β : Type} (k : FaultKind) (va : Word) (m : Mode) (f : CallAnswer → State π → Run π β) :
    (Result.raised k va m s).resume f = f (.fault k va m) s := rfl

@[simp] theorem resume_stopped {β : Type} (c : Fault) (f : CallAnswer → State π → Run π β) :
    (Result.stopped c : Result π Word).resume f = .stopped c := rfl

/-! ### The equations of a walk -/

variable {policy : Side → MissPolicy}

@[simp] theorem walk_answer (a : WalkAnswer policy) : (Walk.answer a).run M s = .ok a s := rfl

theorem walk_read (pa : PhysAddr) (w : Width) (next : Word → Walk policy) :
    (Walk.read pa w next).run M s = (memRead M pa w s).andThen fun v s' => (next v).run M s' := rfl

/-! ### Induction over a run -/

/-- The rule of a run: what holds where it starts and is kept by every change and every call holds of the state it leaves,
and its stop is one that some call of it makes from such a state. -/
theorem run_rule {P : State π → Prop} {Q : Fault → Prop} (changes : ∀ (u : CallbackUpdate π) s, P s → P (u.apply M s))
    (values : ∀ (c : CallbackCall) s v t, P s → c.perform M s = .ok v t → P t)
    (faults : ∀ (c : CallbackCall) s k va m t, P s → c.perform M s = .raised k va m t → P t)
    (stops : ∀ (c : CallbackCall) s f, P s → c.perform M s = .stopped f → Q f) (p : Callback π α) (s : State π) (start : P s) :
    (∀ a t, p.run M s = .answered a t → P t) ∧ ∀ f, p.run M s = .stopped f → Q f := by
  induction p generalizing s with
  | answer b => exact ⟨fun a t e => by cases e; exact start, fun f e => by cases e⟩
  | inspect next ih => exact ih s s start
  | update u next ih => exact ih _ (changes u s start)
  | call c next ih =>
    rw [run_call]
    cases r : c.perform M s with
    | ok v s' => exact ih _ _ (values c s v s' start r)
    | raised k va m s' => exact ih _ _ (faults c s k va m s' start r)
    | stopped g => exact ⟨fun a t e => (by cases e), fun f e => by cases e; exact stops c s _ start r⟩

/-! ### The callbacks of NATIVE (R442) -/

theorem native_interrupt_run {N : Setup NativeState} (level : Fin 32) (resume : Word) (s : State) :
    (nativePersonality.enterOnInterrupt level resume s).run N s = .answered .entered (nativeInterrupt level resume s) := rfl

theorem native_trap_run {N : Setup NativeState} (summ : BitVec 7) (mask resume : Word) (s : State) :
    (nativePersonality.enterOnTrap summ mask resume s).run N s = .answered .entered (nativeTrap summ mask resume s) := rfl

theorem native_exception_run {N : Setup NativeState} (k : FaultKind) (va : Word) (m : Mode) (resume : Word) (s : State) :
    (nativePersonality.enterOnException k va m resume s).run N s =
      .answered .entered (nativeException k va m resume s) := rfl

theorem native_call_run {N : Setup NativeState} (code : BitVec 8) (s : State) :
    (nativePersonality.executePrivilegedOpcode code s).run N s = .answered .doneAt (nativeCall code s) := rfl

/-- Bit 1 of what an entry records is zero (R34, R420). -/
theorem packExcAddr_bit1 (resume : Word) (mode : Bool) : (packExcAddr resume mode).getLsbD 1 = false := by
  unfold packExcAddr alignPc boolWord
  cases mode <;> simp

/-- An instruction's meaning in the host's machine is its meaning under the host's parameters (R14). -/
theorem exec_eq_execUnder (i : Instr) (s : State) : exec i s = execUnder nativeSetup i s := by cases i <;> rfl

end Sys2Proof.Machine
end

