-- ==== Sys2Proof/Laws/Decoding.lean ====
section
/-! SUPPORT. The decoder, once per format: what a word with a given opcode (and function) decodes to. -/

namespace Sys2Proof.Machine

open Sys2Proof

/-- A word decodes by its opcode field. -/
theorem decode_major {w : BitVec 32} {op : BitVec 6} (h : w.extractLsb' 26 6 = op) :
    decode w = decodeMajor op.toNat w := by
  rw [decode, fieldOp, h]

/-- A row of an operate group's function table has its operate format. -/
theorem oprFormat_of_table {op : BitVec 6} {fn : BitVec 7} {mk : Reg → Operand → Reg → Instr}
    {table : Nat → Reg → Operand → Reg → Option Instr} (major : ∀ w, decodeMajor op.toNat w = decodeOperate table w)
    (row : ∀ ra b rc, table fn.toNat ra b rc = some (mk ra b rc)) : OprFormat op fn mk := by
  intro w h1 h2
  rw [decode_major h1, major]
  simp only [decodeOperate, fieldFn7, h2, row]
  rfl

/-- A row of opcode 0x18's function table has its memory-function format. -/
theorem mfcFormat_of_table {fn : BitVec 16} {mk : Reg → Reg → Instr}
    (row : ∀ ra rb, decodeMisc fn.toNat ra rb = some (mk ra rb)) : MfcFormat fn mk := by
  intro w h1 h2
  rw [decode_major h1]
  show listed w (fieldDisp16 w) (decodeMisc (fieldDisp16 w).toNat _ _) = _
  simp only [fieldDisp16, h2, row]
  rfl

/-- An opcode whose every word is one instruction. -/
theorem hasOpcode_of_major {op : BitVec 6} {mk : BitVec 32 → Instr} (major : ∀ w, decodeMajor op.toNat w = .ok (mk w)) :
    HasOpcode op mk := fun w h => (decode_major h).trans (major w)

/-! ### Fields of encoded words -/

/-- A field above the low part of a concatenation is a field of the high part. -/
theorem extract_high {m n : Nat} (a : BitVec m) (b : BitVec n) (s k : Nat) (h : n ≤ s) :
    (a ++ b).extractLsb' s k = a.extractLsb' (s - n) k := by
  ext j hj
  simp [BitVec.getLsbD_append, show ¬ s + j < n by omega, show s + j - n = s - n + j by omega]

/-- A field inside the low part of a concatenation is a field of the low part. -/
theorem extract_low {m n : Nat} (a : BitVec m) (b : BitVec n) (s k : Nat) (h : s + k ≤ n) :
    (a ++ b).extractLsb' s k = b.extractLsb' s k := by
  ext j hj
  simp [BitVec.getLsbD_append, show s + j < n by omega]

/-- The field that is the whole vector. -/
theorem extract_whole {m : Nat} (a : BitVec m) : a.extractLsb' 0 m = a := by ext j hj; simp

section
variable (op : BitVec 6) (ra rb rc : Reg)

theorem fieldOp_encMem (d : BitVec 16) : fieldOp (encMem op ra rb d) = op :=
  (extract_high (op ++ ra ++ rb) d 26 6 (by omega)).trans <| (extract_high (op ++ ra) rb 10 6 (by omega)).trans <|
    (extract_high op ra 5 6 (by omega)).trans (extract_whole op)

theorem fieldOp_encBra (d : BitVec 21) : fieldOp (encBra op ra d) = op :=
  (extract_high (op ++ ra) d 26 6 (by omega)).trans <| (extract_high op ra 5 6 (by omega)).trans (extract_whole op)

theorem fieldOp_encOpr (fn : BitVec 7) (b : Operand) : fieldOp (encOpr op fn ra b rc) = op := by
  cases b with
  | reg rb =>
    exact (extract_high (op ++ ra ++ rb ++ 0#3 ++ 0#1 ++ fn) rc 26 6 (by omega)).trans <|
      (extract_high (op ++ ra ++ rb ++ 0#3 ++ 0#1) fn 21 6 (by omega)).trans <|
      (extract_high (op ++ ra ++ rb ++ 0#3) 0#1 14 6 (by omega)).trans <|
      (extract_high (op ++ ra ++ rb) 0#3 13 6 (by omega)).trans <|
      (extract_high (op ++ ra) rb 10 6 (by omega)).trans <| (extract_high op ra 5 6 (by omega)).trans (extract_whole op)
  | lit v =>
    exact (extract_high (op ++ ra ++ v ++ 1#1 ++ fn) rc 26 6 (by omega)).trans <|
      (extract_high (op ++ ra ++ v ++ 1#1) fn 21 6 (by omega)).trans <|
      (extract_high (op ++ ra ++ v) 1#1 14 6 (by omega)).trans <|
      (extract_high (op ++ ra) v 13 6 (by omega)).trans <| (extract_high op ra 5 6 (by omega)).trans (extract_whole op)

theorem fieldOp_encFpo (fn : BitVec 11) : fieldOp (encFpo op ra rb rc fn) = op :=
  (extract_high (op ++ ra ++ rb ++ fn) rc 26 6 (by omega)).trans <|
    (extract_high (op ++ ra ++ rb) fn 21 6 (by omega)).trans <|
    (extract_high (op ++ ra) rb 10 6 (by omega)).trans <| (extract_high op ra 5 6 (by omega)).trans (extract_whole op)

theorem fieldOp_encMfc (fn : BitVec 16) : fieldOp (encMfc op ra rb fn) = op := fieldOp_encMem op ra rb fn

theorem fieldOp_encJmp (ty : BitVec 2) : fieldOp (encJmp ty ra rb) = 0x1A :=
  (extract_high (0x1A#6 ++ ra ++ rb ++ ty) 0#14 26 6 (by omega)).trans <|
    (extract_high (0x1A#6 ++ ra ++ rb) ty 12 6 (by omega)).trans <|
    (extract_high (0x1A#6 ++ ra) rb 10 6 (by omega)).trans <|
    (extract_high 0x1A#6 ra 5 6 (by omega)).trans (extract_whole 0x1A#6)

theorem fieldOp_encHwm (q : HwQualifiers) (d : BitVec 10) : fieldOp (encHwm op ra rb q d) = op :=
  (extract_high (op ++ ra ++ rb ++ BitVec.ofBool q.phys ++ BitVec.ofBool q.alt ++ BitVec.ofBool q.mbz13 ++
      BitVec.ofBool q.quad ++ BitVec.ofBool q.mbz11 ++ BitVec.ofBool q.lock) d 26 6 (by omega)).trans <|
    (extract_high _ (BitVec.ofBool q.lock) 16 6 (by omega)).trans <|
    (extract_high _ (BitVec.ofBool q.mbz11) 15 6 (by omega)).trans <|
    (extract_high _ (BitVec.ofBool q.quad) 14 6 (by omega)).trans <|
    (extract_high _ (BitVec.ofBool q.mbz13) 13 6 (by omega)).trans <|
    (extract_high _ (BitVec.ofBool q.alt) 12 6 (by omega)).trans <|
    (extract_high _ (BitVec.ofBool q.phys) 11 6 (by omega)).trans <|
    (extract_high (op ++ ra) rb 10 6 (by omega)).trans <| (extract_high op ra 5 6 (by omega)).trans (extract_whole op)

end

end Sys2Proof.Machine
end

