-- ==== Sys2Proof/Laws/Memory.lean ====
section
/-! SUPPORT. RAM: every operation keeps the canonical form, and what each byte reads after a write. -/

namespace Sys2Proof.Machine

/-! ### The canonical form -/

theorem wfFrom_mono {lo lo' : Nat} {m : List Host.Cell} (h : Memory.wfFrom lo m = true) (le : lo' ≤ lo) :
    Memory.wfFrom lo' m = true := by
  cases m with
  | nil => rfl
  | cons c rest =>
    obtain ⟨k, b⟩ := c
    simp only [Memory.wfFrom, Bool.and_eq_true, decide_eq_true_eq] at h ⊢
    exact ⟨⟨by omega, h.1.2⟩, h.2⟩

theorem wfFrom_consCell {lo a : Nat} {v : Byte} {rest : List Host.Cell} (le : lo ≤ a)
    (h : Memory.wfFrom (a + 1) rest = true) : Memory.wfFrom lo (Memory.cons a v rest) = true := by
  unfold Memory.cons
  split
  · exact wfFrom_mono h (by omega)
  · rename_i ne
    simp [Memory.wfFrom, le, h, ne]

theorem wfFrom_writeByte {a : Nat} {v : Byte} : ∀ {lo : Nat} {m : List Host.Cell},
    Memory.wfFrom lo m = true → lo ≤ a → Memory.wfFrom lo (Memory.writeByte m a v) = true
  | _, [], _, le => wfFrom_consCell le rfl
  | lo, (k, b) :: rest, h, le => by
    have h' := h
    simp only [Memory.wfFrom, Bool.and_eq_true, decide_eq_true_eq] at h'
    obtain ⟨⟨hk, hb⟩, hr⟩ := h'
    unfold Memory.writeByte
    split
    · subst_vars; exact wfFrom_consCell le hr
    · split
      · refine wfFrom_consCell le ?_
        simp only [Memory.wfFrom, Bool.and_eq_true, decide_eq_true_eq]
        exact ⟨⟨by omega, hb⟩, hr⟩
      · have := wfFrom_writeByte (a := a) (v := v) hr (by omega)
        simp only [Memory.wfFrom, Bool.and_eq_true, decide_eq_true_eq]
        exact ⟨⟨hk, hb⟩, this⟩

/-- Writing a byte keeps the canonical form. -/
theorem wf_writeByte {m : List Host.Cell} (h : Memory.wf m = true) (a : Nat) (v : Byte) :
    Memory.wf (Memory.writeByte m a v) = true := wfFrom_writeByte h (Nat.zero_le a)

/-- Storing a list of bytes keeps the canonical form. -/
theorem wf_writeBytes : ∀ {m : List Host.Cell} (_ : Memory.wf m = true) (a : Nat) (bs : List Byte),
    Memory.wf (Memory.writeBytes m a bs) = true
  | _, h, _, [] => h
  | _, h, a, b :: bs => wf_writeBytes (wf_writeByte h a b) (a + 1) bs

/-! ### Reads after writes -/

theorem readByte_below {a : Nat} : ∀ {lo : Nat} {m : List Host.Cell},
    Memory.wfFrom lo m = true → a < lo → Memory.readByte m a = Memory.unlisted
  | _, [], _, _ => rfl
  | lo, (k, b) :: rest, h, lt => by
    simp only [Memory.wfFrom, Bool.and_eq_true, decide_eq_true_eq] at h
    unfold Memory.readByte
    rw [if_neg (by omega), if_pos (by omega)]

theorem readByte_consCell {a c : Nat} {v : Byte} {rest : List Host.Cell}
    (h : Memory.wfFrom (a + 1) rest = true) :
    Memory.readByte (Memory.cons a v rest) c = if c = a then v else Memory.readByte rest c := by
  unfold Memory.cons
  split
  · rename_i hv
    split
    · subst_vars; exact readByte_below h (by omega)
    · rfl
  · simp only [Memory.readByte]
    by_cases e : c = a
    · simp [e]
    · rw [if_neg (Ne.symm e), if_neg e]
      split
      · exact (readByte_below h (by omega)).symm
      · rfl

theorem readByte_writeByte_from {a c : Nat} {v : Byte} : ∀ {lo : Nat} {m : List Host.Cell},
    Memory.wfFrom lo m = true →
    Memory.readByte (Memory.writeByte m a v) c = if c = a then v else Memory.readByte m c
  | _, [], _ => readByte_consCell rfl
  | lo, (k, b) :: rest, h => by
    have h' := h
    simp only [Memory.wfFrom, Bool.and_eq_true, decide_eq_true_eq] at h'
    obtain ⟨⟨hk, hb⟩, hr⟩ := h'
    unfold Memory.writeByte
    split
    · subst_vars
      rw [readByte_consCell hr]
      by_cases e : c = k
      · simp [e]
      · rw [if_neg e, if_neg e, Memory.readByte, if_neg (Ne.symm e)]
        split
        · exact readByte_below hr (by omega)
        · rfl
    · rename_i ne
      split
      · rename_i lt
        rw [readByte_consCell]
        simp only [Memory.wfFrom, Bool.and_eq_true, decide_eq_true_eq]
        exact ⟨⟨by omega, hb⟩, hr⟩
      · rename_i nlt
        rw [Memory.readByte, Memory.readByte]
        by_cases e : k = c
        · subst e; simp [ne]
        · rw [if_neg e, if_neg e, readByte_writeByte_from hr]
          by_cases e' : c = a
          · simp [e', nlt]
          · simp [e']

/-- In canonical memory a byte written is read back, and every other byte reads as before. -/
theorem readByte_writeByte {m : List Host.Cell} (h : Memory.wf m = true) (a c : Nat) (v : Byte) :
    Memory.readByte (Memory.writeByte m a v) c = if c = a then v else Memory.readByte m c :=
  readByte_writeByte_from h

/-- In canonical memory the bytes stored are read back, and every other byte reads as before. -/
theorem readByte_writeBytes : ∀ {m : List Host.Cell} (_ : Memory.wf m = true) (a c : Nat) (bs : List Byte),
    Memory.readByte (Memory.writeBytes m a bs) c =
      if a ≤ c ∧ c < a + bs.length then bs.getD (c - a) 0 else Memory.readByte m c
  | m, h, a, c, [] => by
    rw [if_neg (by simp only [List.length_nil]; omega)]; rfl
  | m, h, a, c, b :: bs => by
    rw [Memory.writeBytes, readByte_writeBytes (wf_writeByte h a b), readByte_writeByte h]
    by_cases e : c = a
    · subst e
      rw [if_neg (by omega), if_pos rfl, if_pos (by simp), Nat.sub_self]; rfl
    · by_cases r : a + 1 ≤ c ∧ c < a + 1 + bs.length
      · rw [if_pos r, if_pos (by simp only [List.length_cons]; omega)]
        rw [show c - a = (c - (a + 1)) + 1 by omega]; rfl
      · rw [if_neg r, if_neg e, if_neg (by simp only [List.length_cons]; omega)]

/-! ### Bytes of a word -/

@[simp] theorem length_leBytes (n : Nat) (v : Word) : (leBytes n v).length = n := by
  induction n generalizing v with
  | zero => rfl
  | succ n ih => simp [leBytes, ih]

/-- Byte `i` of the little-endian layout is bits `8i+7:8i` (R70, R261). -/
theorem getD_leBytes (n i : Nat) (v : Word) (h : i < n) : (leBytes n v).getD i 0 = v.extractLsb' (8 * i) 8 := by
  induction n generalizing v i with
  | zero => omega
  | succ n ih =>
    cases i with
    | zero => ext j hj; simp [leBytes]
    | succ i =>
      rw [leBytes, List.getD_cons_succ, ih i (v >>> 8) (by omega)]
      ext j hj
      simp [Nat.mul_add, Nat.add_comm, Nat.add_left_comm]

/-- The bytes stored by an access, read one by one (R75). -/
theorem readByte_store {m : List Host.Cell} (h : Memory.wf m = true) (pa n c : Nat) (v : Word) :
    Memory.readByte (Memory.writeBytes m pa (leBytes n v)) c =
      if pa ≤ c ∧ c < pa + n then v.extractLsb' (8 * (c - pa)) 8 else Memory.readByte m c := by
  rw [readByte_writeBytes h, length_leBytes]
  by_cases r : pa ≤ c ∧ c < pa + n
  · rw [if_pos r, if_pos r, getD_leBytes _ _ _ (by omega)]
  · rw [if_neg r, if_neg r]

@[simp] theorem length_readBytes (m : List Host.Cell) (a n : Nat) : (Memory.readBytes m a n).length = n := by
  induction n generalizing a with
  | zero => rfl
  | succ n ih => simp [Memory.readBytes, ih]

/-- Byte `i` of a read is the byte at `a + i` (R75). -/
theorem getD_readBytes (m : List Host.Cell) (a n i : Nat) (h : i < n) :
    (Memory.readBytes m a n).getD i 0 = Memory.readByte m (a + i) := by
  induction n generalizing a i with
  | zero => omega
  | succ n ih =>
    cases i with
    | zero => rfl
    | succ i =>
      rw [Memory.readBytes, List.getD_cons_succ, ih (a + 1) i (by omega)]
      congr 1; omega

end Sys2Proof.Machine
end

