-- ==== Sys2Proof/Laws/Registers.lean ====
section
/-! SUPPORT. The register files and the history queue: what a read gives after a write. -/

namespace Sys2Proof.Machine

variable {π : Type}

theorem reg_toNat_lt {r : Reg} (h : r ≠ 31) : r.toNat < 31 := by
  have := r.isLt
  have : r.toNat ≠ 31 := fun e => h (BitVec.eq_of_toNat_eq e)
  omega

@[simp] theorem readInt_31 (s : State π) : s.readInt 31#5 = 0#64 := rfl

@[simp] theorem readFp_31 (s : State π) : s.readFp 31#5 = 0#64 := rfl

/-- Reading a register of a file of 31 after writing one. -/
theorem file_read_write {file : Vector Word 31} {r r' : Reg} {v : Word} (h : r.toNat < 31) (h' : r'.toNat < 31) :
    (file.set r.toNat v)[r'.toNat] = if r' = r then v else file[r'.toNat] := by
  rw [Vector.getElem_set]
  by_cases e : r' = r
  · simp [e]
  · have : r.toNat ≠ r'.toNat := fun c => e (BitVec.eq_of_toNat_eq c.symm)
    simp [e, this]

/-- What every integer register reads after one is written (R10, R22). -/
theorem readInt_writeInt (s : State π) (r r' : Reg) (v : Word) :
    (s.writeInt r v).readInt r' = if r' = 31 then 0 else if r' = r then v else s.readInt r' := by
  by_cases h31 : r' = 31
  · subst h31; rfl
  have h' := reg_toNat_lt h31
  by_cases hr : r = 31
  · subst hr; rw [if_neg h31, if_neg h31]; rfl
  have h := reg_toNat_lt hr
  simp only [State.readInt, State.writeInt, h, h', dif_pos, if_neg h31]
  exact file_read_write h h'

/-- What every floating register reads after one is written (R10, R22). -/
theorem readFp_writeFp (s : State π) (r r' : Reg) (v : Word) :
    (s.writeFp r v).readFp r' = if r' = 31 then 0 else if r' = r then v else s.readFp r' := by
  by_cases h31 : r' = 31
  · subst h31; rfl
  have h' := reg_toNat_lt h31
  by_cases hr : r = 31
  · subst hr; rw [if_neg h31, if_neg h31]; rfl
  have h := reg_toNat_lt hr
  simp only [State.readFp, State.writeFp, h, h', dif_pos, if_neg h31]
  exact file_read_write h h'

/-- A read depends on the register file alone. -/
theorem readInt_congr {s t : State π} (h : t.regs = s.regs) (r : Reg) : t.readInt r = s.readInt r := by
  simp [State.readInt, h]

theorem readFp_congr {s t : State π} (h : t.fregs = s.fregs) (r : Reg) : t.readFp r = s.readFp r := by
  simp [State.readFp, h]

@[simp] theorem readInt_setPc (s : State π) (t : Word) (r : Reg) : (s.setPc t).readInt r = s.readInt r := rfl
@[simp] theorem readInt_pushPc (s : State π) (v : Word) (r : Reg) : (s.pushPc v).readInt r = s.readInt r := rfl
@[simp] theorem readInt_trap (s : State π) (b : BitVec 7) (m : BitVec 6) (r : Reg) :
    (s.trap b m).readInt r = s.readInt r := rfl
@[simp] theorem readInt_writeFp (s : State π) (f : Reg) (v : Word) (r : Reg) :
    (s.writeFp f v).readInt r = s.readInt r := readInt_congr (by simp) r
@[simp] theorem readFp_setPc (s : State π) (t : Word) (r : Reg) : (s.setPc t).readFp r = s.readFp r := rfl
@[simp] theorem readFp_writeInt (s : State π) (f : Reg) (v : Word) (r : Reg) :
    (s.writeInt f v).readFp r = s.readFp r := readFp_congr (by simp) r

/-- An integer write is one record update. -/
theorem writeInt_eq (s : State π) (r : Reg) (v : Word) : s.writeInt r v = { s with regs := (s.writeInt r v).regs } := by
  unfold State.writeInt; split <;> rfl

/-- A floating write is one record update. -/
theorem writeFp_eq (s : State π) (r : Reg) (v : Word) : s.writeFp r v = { s with fregs := (s.writeFp r v).fregs } := by
  unfold State.writeFp; split <;> rfl

/-- Writing an integer register and then another field, or the other way round. -/
theorem writeInt_regs_congr {s t : State π} (h : t.regs = s.regs) (r : Reg) (v : Word) :
    (t.writeInt r v).regs = (s.writeInt r v).regs := by
  unfold State.writeInt; split <;> simp [h]

/-- The history queue after a push, entry by entry, with its pointer in range (R24). -/
theorem pushPc_pcqP (s : State π) (v : Word) (h : s.pcqP < s.pcq.length) :
    (s.pushPc v).pcqP = if s.pcqP = 0 then s.pcq.length - 1 else s.pcqP - 1 := by
  show (s.pcqP + s.pcq.length - 1) % s.pcq.length = _
  split
  · rename_i e; rw [e, Nat.mod_eq_of_lt (by omega)]; omega
  · rw [show s.pcqP + s.pcq.length - 1 = (s.pcqP - 1) + s.pcq.length by omega, Nat.add_mod_right, Nat.mod_eq_of_lt (by omega)]

@[simp] theorem pushPc_length (s : State π) (v : Word) : (s.pushPc v).pcq.length = s.pcq.length := by simp [State.pushPc]

/-- The latest entry of the history queue is the address pushed (R24). -/
theorem pushPc_newest (s : State π) (v : Word) (h : s.pcqP < s.pcq.length) : (s.pushPc v).pcqEntry 0 = v := by
  have pos : 0 < s.pcq.length := by omega
  have lt := Nat.mod_lt (s.pcqP + s.pcq.length - 1) pos
  simp [State.pushPc, State.pcqEntry, List.getD_eq_getElem?_getD, Nat.mod_eq_of_lt lt, lt]

/-- A push moves every older entry one place down; the oldest is lost (R24). -/
theorem pushPc_older (s : State π) (v : Word) (k : Nat) (h : s.pcqP < s.pcq.length) (hk : k + 1 < s.pcq.length) :
    (s.pushPc v).pcqEntry (k + 1) = s.pcqEntry k := by
  have e : ((s.pcqP + s.pcq.length - 1) % s.pcq.length + (k + 1)) % s.pcq.length = (s.pcqP + k) % s.pcq.length := by
    rw [Nat.mod_add_mod, show s.pcqP + s.pcq.length - 1 + (k + 1) = s.pcqP + k + s.pcq.length by omega, Nat.add_mod_right]
  have ne : (s.pcqP + s.pcq.length - 1) % s.pcq.length ≠ (s.pcqP + k) % s.pcq.length := by
    by_cases e0 : s.pcqP = 0
    · rw [e0, Nat.mod_eq_of_lt (by omega), Nat.mod_eq_of_lt (by omega)]; omega
    · rw [show s.pcqP + s.pcq.length - 1 = (s.pcqP - 1) + s.pcq.length by omega, Nat.add_mod_right,
        Nat.mod_eq_of_lt (show s.pcqP - 1 < s.pcq.length by omega)]
      by_cases lt : s.pcqP + k < s.pcq.length
      · rw [Nat.mod_eq_of_lt lt]; omega
      · rw [Nat.mod_eq_sub_mod (by omega), Nat.mod_eq_of_lt (by omega)]; omega
  simp only [State.pushPc, State.pcqEntry, List.getD_eq_getElem?_getD, List.length_set, e]
  rw [List.getElem?_set_ne ne]

/-- What a push does to the queue, whole. -/
theorem pushed_pushPc (s : State π) (v : Word) :
    (s.pushPc v).pcq.length = s.pcq.length ∧
    (s.pcqP < s.pcq.length →
      (s.pushPc v).pcqP = (if s.pcqP = 0 then s.pcq.length - 1 else s.pcqP - 1) ∧ (s.pushPc v).pcqEntry 0 = v ∧
        ∀ k, k + 1 < s.pcq.length → (s.pushPc v).pcqEntry (k + 1) = s.pcqEntry k) :=
  ⟨pushPc_length s v, fun h => ⟨pushPc_pcqP s v h, pushPc_newest s v h, fun k hk => pushPc_older s v k h hk⟩⟩

end Sys2Proof.Machine
end

