-- ==== Sys2Proof/Laws/Ops.lean ====
section
/-! SUPPORT. One lemma per shared operation: everything it can answer. -/

namespace Sys2Proof.Machine

variable {π : Type} {M : Setup π}

/-! ### Fields of a word (R8) -/

theorem field_toNat (v : Word) (lo n : Nat) : (field v lo n).toNat = v.toNat / 2 ^ lo % 2 ^ n := by
  have h1 := Nat.mod_le (v.toNat / 2 ^ lo) (2 ^ n)
  have h2 := Nat.div_le_self v.toNat (2 ^ lo)
  have := v.isLt
  simp only [field, BitVec.toNat_ofNat]
  exact Nat.mod_eq_of_lt (by omega)

theorem field_lt (v : Word) (lo n : Nat) : (field v lo n).toNat < 2 ^ n := by
  rw [field_toNat]; exact Nat.mod_lt _ (by positivity)

/-! ### Results and the end of an instruction -/

@[simp] theorem andThen_ok {α β : Type} (a : α) (s : State π) (f : α → State π → Result π β) :
    (Result.ok a s).andThen f = f a s := rfl

@[simp] theorem andThen_raised {α β : Type} (k : FaultKind) (va : Word) (m : Mode) (s : State π)
    (f : α → State π → Result π β) : (Result.raised k va m s).andThen f = .raised k va m s := rfl

@[simp] theorem andThen_stopped {α β : Type} (c : Fault) (f : α → State π → Result π β) :
    (Result.stopped c).andThen f = .stopped c := rfl

theorem andThen_eq_ok {α β : Type} {r : Result π α} {f : α → State π → Result π β} {b : β} {t : State π}
    (h : r.andThen f = .ok b t) : ∃ a s, r = .ok a s ∧ f a s = .ok b t := by
  cases r with
  | ok a s => exact ⟨a, s, rfl, h⟩
  | raised k va m s => cases h
  | stopped c => cases h

/-- An instruction without a pending trap ends in its own state, under any personality (R130 phase 6). -/
theorem finish_ok {u : Unit} {s : State π} (h : s.trapSumm = 0) : finish M (.ok u s) = .next s := by
  simp [finish, deliverTraps, h]

theorem complete_eq {s : State π} (h : s.trapSumm = 0) : complete M s = .next s := finish_ok h

theorem finish_stopped (c : Fault) : finish M (.stopped c) = .fault c := rfl

/-- A pending trap cause is delivered at the end of the instruction (R426). -/
theorem finish_pending {u : Unit} {s : State π} (h : s.trapSumm ≠ 0) : finish M (.ok u s) = dispatchTrap M s := by
  show deliverTraps M s = _
  unfold deliverTraps
  rw [if_neg h]

/-- However an instruction ends, under any personality, it is one of these. -/
theorem finish_any (r : Result π Unit) :
    (∃ u s, r = .ok u s ∧ s.trapSumm = 0 ∧ finish M r = .next s) ∨
    (∃ u s, r = .ok u s ∧ s.trapSumm ≠ 0 ∧ finish M r = dispatchTrap M s) ∨
    (∃ k va m s, r = .raised k va m s ∧ finish M r = dispatchFault M k va m s) ∨
    (∃ c, r = .stopped c ∧ finish M r = .fault c) := by
  cases r with
  | ok u s =>
    by_cases h : s.trapSumm = 0
    · exact .inl ⟨u, s, rfl, h, finish_ok h⟩
    · exact .inr (.inl ⟨u, s, rfl, h, finish_pending h⟩)
  | raised k va m s => exact .inr (.inr (.inl ⟨k, va, m, s, rfl, rfl⟩))
  | stopped c => exact .inr (.inr (.inr ⟨c, rfl, rfl⟩))

/-! ### The end of an instruction under NATIVE -/

variable {N : Setup NativeState} (native : N.personality = nativePersonality)
include native

theorem finish_trap {u : Unit} {s : State} (h : s.trapSumm ≠ 0) :
    finish N (.ok u s) =
      .next (nativeTrap s.trapSumm s.trapMask s.pc { s with trapSumm := 0, trapMask := 0 }) := by
  rw [finish_pending h, dispatchTrap, native]; rfl

/-- A raised fault enters firmware at the instruction's own address (R414). -/
theorem finish_raised (k : FaultKind) (va : Word) (m : Mode) (s : State) :
    finish N (.raised k va m s) = .next (nativeException k va m s.pc s) := by
  show dispatchFault N k va m s = _
  unfold dispatchFault
  rw [native]; rfl

theorem finish_raise (k : FaultKind) (va : Word) (s : State) :
    finish N (raise k va s) = .next (nativeException k va s.cm s.pc s) := finish_raised native k va s.cm s

/-- However an instruction ends under NATIVE, it is one of these. -/
theorem finish_cases (r : Result NativeState Unit) :
    (∃ u s, r = .ok u s ∧ s.trapSumm = 0 ∧ finish N r = .next s) ∨
    (∃ u s, r = .ok u s ∧ s.trapSumm ≠ 0 ∧
      finish N r = .next (nativeTrap s.trapSumm s.trapMask s.pc { s with trapSumm := 0, trapMask := 0 })) ∨
    (∃ k va m s, r = .raised k va m s ∧ finish N r = .next (nativeException k va m s.pc s)) ∨
    (∃ c, r = .stopped c ∧ finish N r = .fault c) := by
  cases r with
  | ok u s =>
    by_cases h : s.trapSumm = 0
    · exact .inl ⟨u, s, rfl, h, finish_ok h⟩
    · exact .inr (.inl ⟨u, s, rfl, h, finish_trap native h⟩)
  | raised k va m s => exact .inr (.inr (.inl ⟨k, va, m, s, rfl, finish_raised native k va m s⟩))
  | stopped c => exact .inr (.inr (.inr ⟨c, rfl, rfl⟩))

/-- NATIVE's miss policy is FAULT on both sides (R442). -/
theorem native_missPolicy (side : Side) : N.personality.missPolicy side = .fault := by rw [native]; rfl

omit native

/-! ### Entry and return -/

/-- Entry into firmware, whole (R420). -/
theorem enterFirmware_eq (s : State π) (offset : BitVec 15) (resume : Word) :
    s.enterFirmware offset resume =
      { (if s.sde && !s.shdwActive then s.exchange else s) with
        excAddr := packExcAddr resume s.palMode
        palMode := true
        pc := alignPc (s.palBase + offset.setWidth 64) } := by
  unfold State.enterFirmware
  by_cases h : (s.sde && !s.shdwActive) = true
  · simp [h, State.setPc, State.exchange, shadowSet, State.swapShadow, State.writeInt, State.readInt]
  · simp [h, State.setPc]

@[simp] theorem enterFirmware_palMode (s : State π) (o : BitVec 15) (r : Word) :
    (s.enterFirmware o r).palMode = true := by rw [enterFirmware_eq]

@[simp] theorem enterFirmware_excAddr (s : State π) (o : BitVec 15) (r : Word) :
    (s.enterFirmware o r).excAddr = packExcAddr r s.palMode := by rw [enterFirmware_eq]

@[simp] theorem enterFirmware_pc (s : State π) (o : BitVec 15) (r : Word) :
    (s.enterFirmware o r).pc = alignPc (s.palBase + o.setWidth 64) := by rw [enterFirmware_eq]

/-! ### Physical access -/

theorem memRead_ram {pa : PhysAddr} {w : Width} {s : State π} (h : pa.toNat < M.memSize) :
    memRead M pa w s = .ok (leValue (Memory.readBytes s.mem pa.toNat w.bytes)) s := by
  simp [memRead, isRam, h]

theorem memWrite_ram {pa : PhysAddr} {w : Width} {v : Word} {s : State π} (h : pa.toNat < M.memSize) :
    memWrite M pa w v s = .ok () { s with mem := Memory.writeBytes s.mem pa.toNat (leBytes w.bytes v) } := by
  simp [memWrite, isRam, h]

theorem memRead_io {pa : PhysAddr} {w : Width} {s : State π} (h : ¬ pa.toNat < M.memSize) :
    memRead M pa w s = match askIo M (.read pa w) s with
      | (.data v, s') => .ok (w.trunc v) s'
      | (.miss, _) => .stopped .stopNxm := by
  unfold memRead
  exact if_neg (by simpa [isRam] using h)

theorem memWrite_io {pa : PhysAddr} {w : Width} {v : Word} {s : State π} (h : ¬ pa.toNat < M.memSize) :
    memWrite M pa w v s = match askIo M (.write pa w (w.trunc v)) s with
      | (.data _, s') => .ok () s'
      | (.miss, _) => .stopped .stopNxm := by
  unfold memWrite
  exact if_neg (by simpa [isRam] using h)

/-- Asking the I/O collaborator changes the log, the answers and the draw counter only. -/
theorem askIo_state (M : Setup π) (s : State π) (a : IoAccess) :
    ∃ answers draws, (askIo M a s).2 = { s with ioLog := a :: s.ioLog, ioAnswers := answers, draws := draws } := by
  unfold askIo
  cases h : s.ioAnswers with
  | nil => exact ⟨[], s.draws + 1, by simp⟩
  | cons x xs => exact ⟨xs, s.draws, rfl⟩

/-- A read answers a value and changes no more than the I/O bookkeeping, or stops; it never raises. -/
theorem memRead_cases (M : Setup π) (pa : PhysAddr) (w : Width) (s : State π) :
    (∃ v log answers draws,
      memRead M pa w s = .ok v { s with ioLog := log, ioAnswers := answers, draws := draws }) ∨
    memRead M pa w s = .stopped .stopNxm := by
  by_cases h : pa.toNat < M.memSize
  · exact .inl ⟨_, s.ioLog, s.ioAnswers, s.draws, memRead_ram h⟩
  · rw [memRead_io h]
    obtain ⟨an, d, e⟩ := askIo_state M s (.read pa w)
    generalize askIo M (.read pa w) s = p at e
    obtain ⟨x, s'⟩ := p
    cases x with
    | miss => exact .inr rfl
    | data v => simp only at e; subst e; exact .inl ⟨w.trunc v, _, _, _, rfl⟩

/-- A write changes memory or the I/O bookkeeping, or stops; it never raises. -/
theorem memWrite_cases (M : Setup π) (pa : PhysAddr) (w : Width) (v : Word) (s : State π) :
    memWrite M pa w v s = .ok () { s with mem := Memory.writeBytes s.mem pa.toNat (leBytes w.bytes v) } ∨
    (∃ log answers draws,
      memWrite M pa w v s = .ok () { s with ioLog := log, ioAnswers := answers, draws := draws }) ∨
    memWrite M pa w v s = .stopped .stopNxm := by
  by_cases h : pa.toNat < M.memSize
  · exact .inl (memWrite_ram h)
  · rw [memWrite_io h]
    obtain ⟨an, d, e⟩ := askIo_state M s (.write pa w (w.trunc v))
    generalize askIo M (.write pa w (w.trunc v)) s = p at e
    obtain ⟨x, s'⟩ := p
    cases x with
    | miss => exact .inr (.inr rfl)
    | data v => simp only at e; subst e; exact .inr (.inl ⟨_, _, _, rfl⟩)

/-- A page-table walk answers and changes no more than the I/O bookkeeping, or stops in a missed read; it never raises. -/
theorem walk_cases {policy : Side → MissPolicy} (M : Setup π) (walk : Walk policy) (s : State π) :
    (∃ a log answers draws, walk.run M s = .ok a { s with ioLog := log, ioAnswers := answers, draws := draws }) ∨
    walk.run M s = .stopped .stopNxm := by
  induction walk generalizing s with
  | answer a => exact .inl ⟨a, s.ioLog, s.ioAnswers, s.draws, rfl⟩
  | read pa w next ih =>
    rw [walk_read]
    rcases memRead_cases M pa w s with ⟨v, log, answers, draws, e⟩ | e <;> rw [e]
    · exact ih v { s with ioLog := log, ioAnswers := answers, draws := draws }
    · exact .inr rfl

/-! ### Translation -/

/-- The choice among matches consumes at most one draw. -/
theorem chooseMatch_state (s : State π) (l : List TlbEntry) : ∃ d, (s.chooseMatch l).2 = { s with draws := d } := by
  match l with
  | [] => exact ⟨s.draws, rfl⟩
  | [_] => exact ⟨s.draws, rfl⟩
  | _ :: _ :: _ => exact ⟨s.draws + 1, rfl⟩

/-- What is chosen is one of the matches, and nothing is chosen only of none (R106). -/
theorem chooseMatch_mem (s : State π) (l : List TlbEntry) :
    (∀ e, (s.chooseMatch l).1 = some e → e ∈ l) ∧ ((s.chooseMatch l).1 = none → l = []) := by
  match l with
  | [] => exact ⟨fun e h => by simp [State.chooseMatch] at h, fun _ => rfl⟩
  | [a] => exact ⟨fun e h => by simp [State.chooseMatch] at h; simp [h], fun h => by simp [State.chooseMatch] at h⟩
  | a :: b :: rest =>
    constructor
    · intro e h
      exact List.mem_of_getElem? h
    · intro h
      simp only [State.chooseMatch] at h
      have := List.getElem?_eq_none_iff.mp h
      have := Nat.mod_lt (Config.freeChoice s.draws) (show 0 < (b :: rest).length + 1 by omega)
      simp only [List.length_cons] at *
      omega

theorem lookup_state (s : State π) (side : Side) (vpn : Vpn) : ∃ d, (s.lookup side vpn).2 = { s with draws := d } := by
  unfold State.lookup
  split
  · exact ⟨s.draws, rfl⟩
  · exact chooseMatch_state s _

/-- Translation on a side whose miss policy is FAULT, whole: an address with at most the mini-TLB filled and a draw taken,
or a fault with at most a draw taken; it never stops (R100). -/
theorem translate_cases {acc : Access} (policy : M.personality.missPolicy acc.side = .fault) (va : Word) (m : Mode)
    (s : State π) :
    (∃ pa, translate M va acc m s = .ok pa s) ∨
    (∃ e d, (∃ s', s.lookup acc.side (vpnOf M va) = (some e, s') ∧ s' = { s with draws := d }) ∧
      checkPte e.pte acc m = none ∧
      translate M va acc m s = .ok (physOf M e va) (({ s with draws := d } : State π).setMini acc.side (vpnOf M va) e)) ∨
    (∃ k d, translate M va acc m s = .raised k va m { s with draws := d }) := by
  unfold translate
  split
  · exact .inr (.inr ⟨_, s.draws, rfl⟩)
  · split
    · split
      · exact .inr (.inr ⟨_, s.draws, rfl⟩)
      · exact .inl ⟨_, rfl⟩
    · unfold translateTable
      obtain ⟨d, e⟩ := lookup_state s acc.side (vpnOf M va)
      generalize h : s.lookup acc.side (vpnOf M va) = p at e
      obtain ⟨x, s'⟩ := p
      simp only at e
      subst e
      cases x with
      | none => exact .inr (.inr ⟨_, d, by simp only [missEntry, policy]; rfl⟩)
      | some en =>
        simp only [useEntry]
        cases hc : checkPte en.pte acc m with
        | some k => exact .inr (.inr ⟨k, d, rfl⟩)
        | none => exact .inr (.inl ⟨en, d, ⟨_, rfl, rfl⟩, hc, rfl⟩)

/-- The state after a translation differs from the one before in one mini-TLB and the draw counter at most. -/
theorem translate_ok_state {va : Word} {acc : Access} {m : Mode} {s s' : State π} {pa : PhysAddr}
    (policy : M.personality.missPolicy acc.side = .fault) (h : translate M va acc m s = .ok pa s') :
    ∃ d mi, s' = ({ s with draws := d } : State π).setTlb acc.side { s.tlb acc.side with mini := mi } := by
  rcases translate_cases policy va m s with ⟨pa', e⟩ | ⟨en, d, -, -, e⟩ | ⟨k, d, e⟩
  · rw [e] at h; cases h
    refine ⟨s.draws, (s.tlb acc.side).mini, ?_⟩
    cases acc.side <;> rfl
  · rw [e] at h; cases h
    refine ⟨d, some (vpnOf M va, en), ?_⟩
    cases acc.side <;> rfl
  · rw [e] at h; cases h

/-- A translation fault carries the address and the mode, and its state differs in the draw counter at most. -/
theorem translate_raised_state {va va' : Word} {acc : Access} {m m' : Mode} {s s' : State π} {k : FaultKind}
    (policy : M.personality.missPolicy acc.side = .fault) (h : translate M va acc m s = .raised k va' m' s') :
    va' = va ∧ m' = m ∧ ∃ d, s' = { s with draws := d } := by
  rcases translate_cases policy va m s with ⟨pa', e⟩ | ⟨en, d, -, -, e⟩ | ⟨k, d, e⟩
  · rw [e] at h; cases h
  · rw [e] at h; cases h
  · rw [e] at h; cases h; exact ⟨rfl, rfl, d, rfl⟩

theorem translate_not_stopped {acc : Access} (policy : M.personality.missPolicy acc.side = .fault) (va : Word) (m : Mode)
    (s : State π) (c : Fault) : translate M va acc m s ≠ .stopped c := by
  intro h
  rcases translate_cases policy va m s with ⟨pa', e⟩ | ⟨en, d, -, -, e⟩ | ⟨k, d, e⟩ <;> rw [e] at h <;> cases h

theorem checkAligned_ok {va : Word} {w : Width} {s : State π} (h : w.bytes ∣ va.toNat) :
    checkAligned va w s = .ok () s := by
  simp [checkAligned, Nat.mod_eq_zero_of_dvd h]

theorem checkAligned_raised {va : Word} {w : Width} {s : State π} (h : ¬ w.bytes ∣ va.toNat) :
    checkAligned va w s = .raised .misalignedOperand va s.cm s := by
  have : va.toNat % w.bytes ≠ 0 := fun e => h (Nat.dvd_of_mod_eq_zero e)
  simp [checkAligned, this, raise]

end Sys2Proof.Machine
end

