-- ==== Sys2Proof/Laws/Firmware.lean ====
section
/-! SUPPORT. The shadow exchange, the return from firmware and the loading of a table entry: everything each can do. -/

namespace Sys2Proof.Machine

variable {π : Type}

/-! ### The shadow exchange (R36) -/

/-- The register file after an exchange. -/
theorem exchange_regs (s : State π) :
    s.exchange.regs = ((((((((s.regs.set 8 s.shadow[0]).set 9 s.shadow[1]).set 10 s.shadow[2]).set 11 s.shadow[3]).set
      12 s.shadow[4]).set 13 s.shadow[5]).set 14 s.shadow[6]).set 25 s.shadow[7]) := by
  simp [State.exchange, shadowSet, State.swapShadow, State.writeInt, State.readInt]

/-- The cells after an exchange. -/
theorem exchange_shadow (s : State π) :
    s.exchange.shadow = ((((((((s.shadow.set 0 s.regs[8]).set 1 s.regs[9]).set 2 s.regs[10]).set 3 s.regs[11]).set
      4 s.regs[12]).set 5 s.regs[13]).set 6 s.regs[14]).set 7 s.regs[25]) := by
  simp [State.exchange, shadowSet, State.swapShadow, State.writeInt, State.readInt]

/-- An exchange is one record update. -/
theorem exchange_eq (s : State π) :
    s.exchange = { s with regs := s.exchange.regs, shadow := s.exchange.shadow, shdwActive := !s.shdwActive } := by
  simp [State.exchange, shadowSet, State.swapShadow, State.writeInt]

/-- A register outside the shadow set keeps its value. -/
theorem exchange_readInt_other (s : State π) (r : Reg) (hr : r ∉ [8, 9, 10, 11, 12, 13, 14, 25]) :
    s.exchange.readInt r = s.readInt r := by
  unfold State.readInt
  split
  · rw [getElem_congr_coll (exchange_regs s)]
    have k : ∀ n : Reg, r ≠ n → n.toNat ≠ r.toNat := fun n h c => h (BitVec.eq_of_toNat_eq c.symm)
    simp only [List.mem_cons, List.not_mem_nil, or_false, not_or] at hr
    obtain ⟨h1, h2, h3, h4, h5, h6, h7, h8⟩ := hr
    have := k _ h1
    have := k _ h2
    have := k _ h3
    have := k _ h4
    have := k _ h5
    have := k _ h6
    have := k _ h7
    have := k _ h8
    simp only [Vector.getElem_set]
    simp at *
    simp [*]
  · rfl

/-! ### The return from firmware (R389) -/

/-- The body of `HW_REI`, whole. -/
theorem returnFromFirmware_eq (s : State π) (rs : Bool) :
    s.returnFromFirmware rs =
      { s with
        pc := alignPc s.excAddr
        palMode := s.excAddr.getLsbD 0
        lockFlag := false
        pcq := (s.pushPc s.pc).pcq
        pcqP := (s.pushPc s.pc).pcqP
        regs := (if rs = true ∧ s.shdwActive = true ∧ s.excAddr.getLsbD 0 = false then s.exchange else s).regs
        shadow := (if rs = true ∧ s.shdwActive = true ∧ s.excAddr.getLsbD 0 = false then s.exchange else s).shadow
        shdwActive :=
          (if rs = true ∧ s.shdwActive = true ∧ s.excAddr.getLsbD 0 = false then s.exchange else s).shdwActive } := by
  unfold State.returnFromFirmware
  have e : (rs && (s.pushPc s.pc).shdwActive && !(s.pushPc s.pc).excAddr.getLsbD 0) = true ↔
      (rs = true ∧ s.shdwActive = true ∧ s.excAddr.getLsbD 0 = false) := by simp [and_assoc]
  by_cases h : rs = true ∧ s.shdwActive = true ∧ s.excAddr.getLsbD 0 = false
  · simp only [if_pos h]
    rw [if_pos (e.2 h), exchange_eq]
    have h1 : (s.pushPc s.pc).exchange.regs = s.exchange.regs := by simp only [exchange_regs]; rfl
    have h2 : (s.pushPc s.pc).exchange.shadow = s.exchange.shadow := by simp only [exchange_shadow]; rfl
    rw [h1, h2]; rfl
  · simp only [if_neg h]
    rw [if_neg (fun c => h (e.1 c))]
    rfl

/-! ### Loading a table entry (R110) -/

/-- `TlbLoad` replaces one slot, empties the mini-TLB and moves the pointer at most one place, or stops. -/
theorem tlbLoad_cases (M : Setup π) (side : Side) (vpn : Vpn) (p : Word) (s : State π) :
    (∃ slot nlu, tlbLoad M side vpn p s =
      .ok (pteEntry M (s.tlb side).asn vpn p) (s.setTlb side
        { s.tlb side with
          slots := (s.tlb side).slots.set slot (some (pteEntry M (s.tlb side).asn vpn p)), nlu := nlu, mini := none }) ∧
      (nlu = (s.tlb side).nlu ∨ nlu = ((s.tlb side).nlu + 1) % M.tlbSize side)) ∨
    (tlbLoad M side vpn p s = .stopped .stopEngine ∧ ¬ (s.tlb side).nlu < M.tlbSize side) := by
  unfold tlbLoad
  simp only
  split
  · rename_i slot _
    exact .inl ⟨slot, _, rfl, .inl rfl⟩
  · split
    · exact .inl ⟨_, _, rfl, .inr rfl⟩
    · rename_i h
      exact .inr ⟨rfl, h⟩

end Sys2Proof.Machine
end

