-- ==== Sys2Proof/Laws/Shapes.lean ====
section
/-! SUPPORT. The shapes the instruction families share, each with one lemma saying how an instruction of that shape ends. -/

namespace Sys2Proof.Machine

theorem memoryKept_of_mem {s t : State} (h : t.mem = s.mem) : MemoryKept s t := fun a => by rw [h]

/-- Writing one register and advancing is what `WritesInt` describes. -/
theorem writesInt_advance (s : State) (rc : Reg) (v : Word) : WritesInt s (s.writeInt rc v).advance rc v := by
  refine ⟨?_, fun r => readInt_writeInt s rc r v, memoryKept_of_mem (by simp [State.advance])⟩
  simp only [State.advance, State.npc, State.setPc, State.writeInt_pc]
  rw [writeInt_eq s rc v]

theorem writesFp_advance (s : State) (fc : Reg) (v : Word) : WritesFp s (s.writeFp fc v).advance fc v := by
  refine ⟨?_, fun r => readFp_writeFp s fc r v, memoryKept_of_mem (by simp [State.advance])⟩
  simp only [State.advance, State.npc, State.setPc, State.writeFp_pc]
  rw [writeFp_eq s fc v]

theorem onlyAdvances_advance (s : State) : OnlyAdvances s s.advance := ⟨rfl, fun _ => rfl⟩


/-- An operate instruction (R141). -/
theorem operate_result (f : Word → Word → Word) (ra : Reg) (b : Operand) (rc : Reg) (s : State) (h : s.trapSumm = 0) :
    ∃ t, operate nativeSetup f ra b rc s = .next t ∧ WritesInt s t rc (f (s.readInt ra) (operandValue s b)) :=
  ⟨_, complete_eq (by simpa using h), writesInt_advance s rc _⟩

/-- Writing a value and advancing, without a trap pending. -/
theorem complete_writeInt (s : State) (rc : Reg) (v : Word) (h : s.trapSumm = 0) :
    ∃ t, complete nativeSetup (s.writeInt rc v).advance = .next t ∧ WritesInt s t rc v :=
  ⟨_, complete_eq (by simpa using h), writesInt_advance s rc v⟩

theorem trapMask_bit (rc : Reg) : (1#64 <<< (rc.setWidth 6).toNat) = 1#64 <<< rc.toNat := by
  have := rc.isLt
  simp [Nat.mod_eq_of_lt (show rc.toNat < 64 by omega)]

/-- An operate instruction that traps on overflow (R202). -/
theorem operateTrap_result (f : Word → Word → Word) (ov : Word → Word → Word → Bool) (ra : Reg) (b : Operand) (rc : Reg)
    (s : State) (h : s.trapSumm = 0) (hm : s.trapMask = 0) :
    let x := s.readInt ra
    let y := operandValue s b
    (ov x y (f x y) = false → ∃ t, operateTrap nativeSetup f ov ra b rc s = .next t ∧ WritesInt s t rc (f x y)) ∧
    (ov x y (f x y) = true → ∃ done, WritesInt s done rc (f x y) ∧
      operateTrap nativeSetup f ov ra b rc s = .next (nativeTrap 0x40 (1#64 <<< rc.toNat) (alignPc (s.pc + 4)) done)) := by
  intro x y
  constructor
  · intro hov
    have e : operateTrap nativeSetup f ov ra b rc s = complete nativeSetup (s.writeInt rc (f x y)).advance := by
      show complete nativeSetup ((s.writeInt rc (f x y)).trapIovIf (ov x y (f x y)) rc).advance = _
      rw [hov]; rfl
    rw [e]
    exact complete_writeInt s rc _ h
  · intro hov
    refine ⟨(s.writeInt rc (f x y)).advance, writesInt_advance s rc _, ?_⟩
    have e : operateTrap nativeSetup f ov ra b rc s =
        complete nativeSetup ((s.writeInt rc (f x y)).trap trapIov (rc.setWidth 6)).advance := by
      show complete nativeSetup ((s.writeInt rc (f x y)).trapIovIf (ov x y (f x y)) rc).advance = _
      rw [hov]; rfl
    rw [e]
    have ne : ((s.writeInt rc (f x y)).trap trapIov (rc.setWidth 6)).advance.trapSumm ≠ 0 := by
      simp [State.trap, h, trapIov]
    refine (finish_trap rfl ne).trans ?_
    simp only [State.advance, State.setPc, State.npc, State.trap, State.writeInt_pc, State.writeInt_trapSumm,
      State.writeInt_trapMask, h, hm, trapMask_bit]
    congr 1
    rw [writeInt_eq s rc (f x y)]
    simp [trapIov]

/-- A conditional move (R247). -/
theorem conditionalMove_result (t : IntTest) (ra : Reg) (b : Operand) (rc : Reg) (s : State) (h : s.trapSumm = 0) :
    (t.holds (s.readInt ra) = true →
      ∃ u, conditionalMove nativeSetup t ra b rc s = .next u ∧ WritesInt s u rc (operandValue s b)) ∧
    (t.holds (s.readInt ra) = false → ∃ u, conditionalMove nativeSetup t ra b rc s = .next u ∧ OnlyAdvances s u) := by
  unfold conditionalMove
  constructor
  · intro e; rw [if_pos e]; exact complete_writeInt s rc _ h
  · intro e; rw [if_neg (by simp [e])]; exact ⟨_, complete_eq h, onlyAdvances_advance s⟩

/-- A taken transfer is what `Transfers` describes. -/
theorem transfers_transfer (s : State) (target : Word) : Transfers s (s.transfer target) target :=
  ⟨rfl, pushed_pushPc s s.pc, fun _ => rfl⟩

/-- An integer conditional branch (R302). -/
theorem branchIf_result (t : IntTest) (ra : Reg) (disp : BitVec 21) (s : State) (h : s.trapSumm = 0) :
    (t.holds (s.readInt ra) = true →
      ∃ u, branchIf nativeSetup t ra disp s = .next u ∧ Transfers s u (branchTarget s disp)) ∧
    (t.holds (s.readInt ra) = false → ∃ u, branchIf nativeSetup t ra disp s = .next u ∧ OnlyAdvances s u) := by
  unfold branchIf
  constructor
  · intro e; rw [if_pos e]; exact ⟨_, complete_eq h, transfers_transfer s _⟩
  · intro e; rw [if_neg (by simp [e])]; exact ⟨_, complete_eq h, onlyAdvances_advance s⟩

/-- A floating instruction while floating point is disabled (R354). -/
theorem requireFp_disabled {π : Type} {s : State π} {α : Type} (f : Unit → State π → Result π α) (h : s.fpen = false) :
    (requireFp s).andThen f = raise .floatingDisabled 0 s := by
  simp [requireFp, h, raise]

theorem requireFp_enabled {π : Type} {s : State π} {α : Type} (f : Unit → State π → Result π α) (h : s.fpen = true) :
    (requireFp s).andThen f = f () s := by
  simp [requireFp, h]

theorem requirePrivileged_denied {π : Type} {s : State π} {α : Type} (f : Unit → State π → Result π α)
    (h : ¬ (s.palMode = true ∨ s.cm = 0)) : (requirePrivileged s).andThen f = raise .reservedInstruction 0 s := by
  have : s.privileged = false := by
    simp only [not_or] at h
    have h2 : ¬ s.cm = 0#2 := h.2
    simp [State.privileged, h.1, h2]
  simp [requirePrivileged, this, raise]

theorem requirePrivileged_allowed {π : Type} {s : State π} {α : Type} (f : Unit → State π → Result π α)
    (h : s.palMode = true ∨ s.cm = 0) : (requirePrivileged s).andThen f = f () s := by
  have : s.privileged = true := by
    rcases h with h | h <;> simp [State.privileged, h]
  simp [requirePrivileged, this]

/-- A floating conditional branch. -/
theorem fpBranchIf_result (t : FpTest) (fa : Reg) (disp : BitVec 21) (s : State) :
    (s.fpen = false → fpBranchIf nativeSetup t fa disp s = .next (nativeException .floatingDisabled 0 s.cm s.pc s)) ∧
    (s.fpen = true → s.trapSumm = 0 →
      (t.holds (s.readFp fa) = true →
        ∃ u, fpBranchIf nativeSetup t fa disp s = .next u ∧ Transfers s u (branchTarget s disp)) ∧
      (t.holds (s.readFp fa) = false → ∃ u, fpBranchIf nativeSetup t fa disp s = .next u ∧ OnlyAdvances s u)) := by
  unfold fpBranchIf
  refine ⟨fun h => by rw [requireFp_disabled _ h]; rfl, fun h ht => ?_⟩
  rw [requireFp_enabled _ h]
  constructor
  · intro e; rw [if_pos e]; exact ⟨_, finish_ok ht, transfers_transfer s _⟩
  · intro e; rw [if_neg (by simp [e])]; exact ⟨_, finish_ok ht, onlyAdvances_advance s⟩

/-- A transfer with link, its target computed beforehand (R303, R319). -/
theorem link_result (ra : Reg) (target : Word) (s : State) (h : s.trapSumm = 0) :
    ∃ t, complete nativeSetup (((s.pushPc s.pc).writeInt ra s.npc).setPc target) = .next t ∧ TransfersWithLink s t ra target := by
  refine ⟨_, complete_eq (by simpa using h), ?_, ?_, ?_, ?_⟩
  · simp only [State.setPc]
    rw [writeInt_eq (s.pushPc s.pc) ra s.npc]
    simp [State.pushPc]
  · have := pushed_pushPc s s.pc
    simpa [Pushed, State.pcqEntry, State.setPc] using this
  · intro r
    rw [readInt_setPc, readInt_writeInt, readInt_pushPc]; rfl
  · exact memoryKept_of_mem (by simp)

/-! ### Memory instructions -/

/-- The number a list of at most eight bytes stands for is its little-endian value. -/
theorem natOfBytes_lt (bs : List Byte) : natOfBytes bs < 256 ^ bs.length := by
  induction bs with
  | nil => simp [natOfBytes]
  | cons b bs ih =>
    have := b.isLt
    simp only [natOfBytes, List.length_cons, Nat.pow_succ]
    omega

theorem toNat_leValue : ∀ (bs : List Byte), bs.length ≤ 8 → (leValue bs).toNat = natOfBytes bs
  | [], _ => rfl
  | b :: bs, h => by
    have ih := toNat_leValue bs (by simp only [List.length_cons] at h; omega)
    have lt := natOfBytes_lt bs
    have hb := b.isLt
    have small : natOfBytes bs < 2 ^ 56 := by
      refine Nat.lt_of_lt_of_le lt ?_
      calc 256 ^ bs.length ≤ 256 ^ 7 := Nat.pow_le_pow_right (by omega) (by simp only [List.length_cons] at h; omega)
        _ = 2 ^ 56 := by norm_num
    have e1 : (leValue bs <<< 8).toNat = natOfBytes bs * 256 := by
      rw [BitVec.toNat_shiftLeft, ih, Nat.shiftLeft_eq]
      exact Nat.mod_eq_of_lt (by omega)
    have e2 : (b.setWidth 64).toNat = b.toNat := by
      rw [BitVec.toNat_setWidth]; exact Nat.mod_eq_of_lt (by omega)
    show (b.setWidth 64 ||| leValue bs <<< 8).toNat = b.toNat + 256 * natOfBytes bs
    rw [BitVec.toNat_or, e1, e2, Nat.or_comm]
    have := Nat.shiftLeft_add_eq_or_of_lt (a := natOfBytes bs) (b := b.toNat) (i := 8) hb
    rw [Nat.shiftLeft_eq] at this
    rw [show natOfBytes bs * 256 = natOfBytes bs * 2 ^ 8 by norm_num, ← this]
    ring

theorem leValue_eq (bs : List Byte) (h : bs.length ≤ 8) : leValue bs = BitVec.ofNat 64 (natOfBytes bs) := by
  apply BitVec.eq_of_toNat_eq
  rw [toNat_leValue bs h, BitVec.toNat_ofNat]
  refine (Nat.mod_eq_of_lt (Nat.lt_of_lt_of_le (natOfBytes_lt bs) ?_)).symm
  calc 256 ^ bs.length ≤ 256 ^ 8 := Nat.pow_le_pow_right (by omega) h
    _ = 2 ^ 64 := by norm_num

theorem width_bytes_le (w : Width) : w.bytes ≤ 8 := by cases w <;> decide

/-- What an access of a width carries of a value, as a number. -/
theorem trunc_eq (w : Width) (v : Word) : w.trunc v = BitVec.ofNat 64 (v.toNat % 256 ^ w.bytes) := by
  apply BitVec.eq_of_toNat_eq
  have := v.isLt
  cases w <;> (simp [Width.trunc, Width.bytes, zext]; try omega)

/-- Any instruction made of an alignment test, a place, a read and an end that completes. -/
theorem read_shape {i : Instr} {s : State} {ea : Word} {w : Width} {place : State → Result NativeState PhysAddr}
    {fin : Word → State → State} {done : State → Nat → State → Prop}
    (shape : exec i s = finish nativeSetup ((checkAligned ea w s).andThen fun _ s1 =>
      (place s1).andThen fun pa s2 => (memRead nativeSetup pa w s2).andThen fun v s3 => .ok () (fin v s3)))
    (mem : ∀ pa s', place s = .ok pa s' → s'.mem = s.mem ∧ s'.trapSumm = s.trapSumm)
    (clear : s.trapSumm = 0)
    (ends : ∀ (n : Nat) (s' : State), n < 256 ^ w.bytes →
      (fin (BitVec.ofNat 64 n) s').trapSumm = s'.trapSumm ∧
      ((∃ pa s0, place s = .ok pa s0 ∧ ∃ l a d, s' = { s0 with ioLog := l, ioAnswers := a, draws := d }) →
        done s' n (fin (BitVec.ofNat 64 n) s'))) :
    ReadRule i s ea w (place s) done := by
  unfold ReadRule Faults EndsWith
  rw [shape]
  constructor
  · intro h; rw [checkAligned_raised h]; rfl
  · intro h
    rw [checkAligned_ok h]
    simp only [andThen_ok]
    refine ⟨fun k va m s' hp => by rw [hp]; rfl, fun pa s' hp hr => ?_, fun pa s' hp hr => ⟨?_, ?_⟩⟩
    · obtain ⟨hm, ht⟩ := mem pa s' hp
      rw [hp]
      simp only [andThen_ok]
      rw [memRead_ram hr]
      simp only [andThen_ok]
      have len : (Memory.readBytes s.mem pa.toNat w.bytes).length ≤ 8 := by simpa using width_bytes_le w
      have lt := natOfBytes_lt (Memory.readBytes s.mem pa.toNat w.bytes)
      rw [length_readBytes] at lt
      rw [hm, leValue_eq _ len]
      obtain ⟨e1, e2⟩ := ends _ s' lt
      exact ⟨_, finish_ok (by rw [e1, ht, clear]), e2 ⟨pa, s', hp, _, _, _, rfl⟩⟩
    · intro s'' ha
      rw [hp]
      simp only [andThen_ok]
      rw [memRead_io hr, ha]; rfl
    · intro v s'' ha
      obtain ⟨hm, ht⟩ := mem pa s' hp
      rw [hp]
      simp only [andThen_ok]
      rw [memRead_io hr, ha]
      simp only [andThen_ok]
      rw [trunc_eq]
      obtain ⟨an, d, e⟩ := askIo_state nativeSetup s' (.read pa w)
      rw [ha] at e
      simp only at e
      obtain ⟨e1, e2⟩ := ends (v.toNat % 256 ^ w.bytes) s'' (Nat.mod_lt _ (by positivity))
      refine ⟨_, finish_ok ?_, e2 ⟨pa, s', hp, _, _, _, e⟩⟩
      rw [e1, e]
      exact ht.trans clear

/-- Any instruction made of an alignment test, a place, a write and an end that completes. -/
theorem write_shape {i : Instr} {s : State} {ea : Word} {w : Width} {v : Word} {place : State → Result NativeState PhysAddr}
    {fin : State → State} {done : State → State → Prop}
    (shape : exec i s = finish nativeSetup ((checkAligned ea w s).andThen fun _ s1 =>
      (place s1).andThen fun pa s2 => (memWrite nativeSetup pa w v s2).andThen fun _ s3 => .ok () (fin s3)))
    (mem : ∀ pa s', place s = .ok pa s' → s'.mem = s.mem ∧ s'.trapSumm = s.trapSumm)
    (clear : s.trapSumm = 0) (wf : Memory.wf s.mem = true)
    (ends : ∀ (s' : State), (fin s').trapSumm = s'.trapSumm ∧ (fin s').mem = s'.mem ∧ done s' (fin s')) :
    WriteRule i s ea w v (place s) done := by
  unfold WriteRule Faults EndsWith
  rw [shape]
  constructor
  · intro h; rw [checkAligned_raised h]; rfl
  · intro h
    rw [checkAligned_ok h]
    simp only [andThen_ok]
    refine ⟨fun k va m s' hp => by rw [hp]; rfl, fun pa s' hp hr => ?_, fun pa s' hp hr => ⟨?_, ?_⟩⟩
    · obtain ⟨hm, ht⟩ := mem pa s' hp
      rw [hp]
      simp only [andThen_ok]
      rw [memWrite_ram hr]
      simp only [andThen_ok]
      obtain ⟨e1, e2, e3⟩ := ends { s' with mem := Memory.writeBytes s'.mem pa.toNat (leBytes w.bytes v) }
      refine ⟨_, finish_ok (by rw [e1]; exact ht.trans clear), fun a => ?_, ?_⟩
      · rw [e2]
        show Memory.readByte (Memory.writeBytes s'.mem pa.toNat (leBytes w.bytes v)) a = _
        rw [hm]; exact readByte_store wf pa.toNat w.bytes a v
      · rw [e2]; exact e3
    · intro s'' ha
      rw [hp]
      simp only [andThen_ok]
      rw [memWrite_io hr, ha]; rfl
    · intro d s'' ha
      obtain ⟨hm, ht⟩ := mem pa s' hp
      rw [hp]
      simp only [andThen_ok]
      rw [memWrite_io hr, ha]
      simp only [andThen_ok]
      obtain ⟨an, dr, e⟩ := askIo_state nativeSetup s' (.write pa w (w.trunc v))
      rw [ha] at e
      simp only at e
      obtain ⟨e1, -, e3⟩ := ends s''
      refine ⟨_, finish_ok ?_, e3⟩
      rw [e1, e]
      exact ht.trans clear

/-- A translation under NATIVE leaves memory and the trap summary alone. -/
theorem translate_ok_mem {va : Word} {acc : Access} {m : Mode} {s s' : State} {pa : PhysAddr}
    (h : translate nativeSetup va acc m s = .ok pa s') : s'.mem = s.mem ∧ s'.trapSumm = s.trapSumm := by
  obtain ⟨d, mi, e⟩ := translate_ok_state rfl h
  subst e
  exact ⟨by simp, by simp⟩

end Sys2Proof.Machine
end

