-- ==== Sys2Proof/Laws/Ipr.lean ====
section
/-! SUPPORT. The internal-register map (R49): the indices of its two arrays, and how the two opcodes that use it end, under
any parameters (R385, R386, R391). -/

namespace Sys2Proof.Machine

variable {π : Type} {M : Setup π}

theorem Ipr.ofIndex_palTemp (k : Fin 24) : Ipr.ofIndex M (BitVec.ofNat 16 (0x0040 + k)) = some (.palTemp k) := by
  have e : (BitVec.ofNat 16 (0x0040 + k)).toNat = 0x0040 + k := by rw [BitVec.toNat_ofNat]; omega
  unfold Ipr.ofIndex
  rw [e]
  split <;> first | omega | skip
  rw [dif_pos (by omega)]
  simp

theorem Ipr.ofIndex_pcq {k : Nat} (queue : k < M.pcqSize) (index : k < 0xFF00) :
    Ipr.ofIndex M (BitVec.ofNat 16 (0x0100 + k)) = some (.pcq k) := by
  have e : (BitVec.ofNat 16 (0x0100 + k)).toNat = 0x0100 + k := by rw [BitVec.toNat_ofNat]; omega
  unfold Ipr.ofIndex
  rw [e]
  split <;> first | omega | skip
  rw [dif_neg (by omega), if_pos (by omega)]
  simp

/-- `HW_MFPR` where it is legal: the value read, or reserved-operand. -/
theorem hwMfpr_result {s : State π} (ra : Reg) (index : BitVec 16) (legal : s.palMode = true ∨ s.cm = 0)
    (traps : s.trapSumm = 0) :
    execUnder M (.hwMfpr ra index) s =
      match iprRead M index s with
      | some v => .next (s.writeInt ra v).advance
      | none => dispatchFault M .reservedOperand 0 s.cm s := by
  show execHwMfpr ra index s M = _
  unfold execHwMfpr
  rw [requirePrivileged_allowed _ legal]
  cases iprRead M index s with
  | some v => exact finish_ok (by simpa using traps)
  | none => rfl

/-- `HW_MTPR` where it is legal ends as the write of the register does, and then advances. -/
theorem hwMtpr_result {s : State π} (rb : Reg) (index : BitVec 16) (legal : s.palMode = true ∨ s.cm = 0) :
    execUnder M (.hwMtpr rb index) s =
      finish M ((iprWrite M index (s.readInt rb) s).andThen fun _ t => .ok () t.advance) := by
  show execHwMtpr rb index s M = _
  unfold execHwMtpr
  rw [requirePrivileged_allowed _ legal]

end Sys2Proof.Machine
end

