-- ==== Sys2Proof/Laws/PerInstr.lean ====
section
/-! SUPPORT. Statements made per instruction. `EncodeOpcode`: the word the encoder writes has, in bits 31:26, the major
opcode the opcode table gives the row (30_encoding R132, R142). -/

namespace Sys2Proof.Laws

/-- The major opcode of each instruction in the opcode table. -/
def majorOpcode (i : Instr) : BitVec 6 :=
  match i with
  | .callPal _ _ _ => 0x00
  | .opc01 => 0x01
  | .opc02 => 0x02
  | .opc03 => 0x03
  | .opc04 => 0x04
  | .opc05 => 0x05
  | .opc06 => 0x06
  | .opc07 => 0x07
  | .lda _ _ _ => 0x08
  | .ldah _ _ _ => 0x09
  | .ldbu _ _ _ => 0x0A
  | .ldqU _ _ _ => 0x0B
  | .ldwu _ _ _ => 0x0C
  | .stw _ _ _ => 0x0D
  | .stb _ _ _ => 0x0E
  | .stqU _ _ _ => 0x0F
  | .addl _ _ _ => 0x10
  | .s4addl _ _ _ => 0x10
  | .subl _ _ _ => 0x10
  | .s4subl _ _ _ => 0x10
  | .cmpbge _ _ _ => 0x10
  | .s8addl _ _ _ => 0x10
  | .s8subl _ _ _ => 0x10
  | .cmpult _ _ _ => 0x10
  | .addq _ _ _ => 0x10
  | .s4addq _ _ _ => 0x10
  | .subq _ _ _ => 0x10
  | .s4subq _ _ _ => 0x10
  | .cmpeq _ _ _ => 0x10
  | .s8addq _ _ _ => 0x10
  | .s8subq _ _ _ => 0x10
  | .cmpule _ _ _ => 0x10
  | .addlV _ _ _ => 0x10
  | .sublV _ _ _ => 0x10
  | .cmplt _ _ _ => 0x10
  | .addqV _ _ _ => 0x10
  | .subqV _ _ _ => 0x10
  | .cmple _ _ _ => 0x10
  | .and _ _ _ => 0x11
  | .bic _ _ _ => 0x11
  | .cmovlbs _ _ _ => 0x11
  | .cmovlbc _ _ _ => 0x11
  | .bis _ _ _ => 0x11
  | .cmoveq _ _ _ => 0x11
  | .cmovne _ _ _ => 0x11
  | .ornot _ _ _ => 0x11
  | .xor _ _ _ => 0x11
  | .cmovlt _ _ _ => 0x11
  | .cmovge _ _ _ => 0x11
  | .eqv _ _ _ => 0x11
  | .amask _ _ => 0x11
  | .cmovle _ _ _ => 0x11
  | .cmovgt _ _ _ => 0x11
  | .implver _ => 0x11
  | .mskbl _ _ _ => 0x12
  | .extbl _ _ _ => 0x12
  | .insbl _ _ _ => 0x12
  | .mskwl _ _ _ => 0x12
  | .extwl _ _ _ => 0x12
  | .inswl _ _ _ => 0x12
  | .mskll _ _ _ => 0x12
  | .extll _ _ _ => 0x12
  | .insll _ _ _ => 0x12
  | .zap _ _ _ => 0x12
  | .zapnot _ _ _ => 0x12
  | .mskql _ _ _ => 0x12
  | .srl _ _ _ => 0x12
  | .extql _ _ _ => 0x12
  | .sll _ _ _ => 0x12
  | .insql _ _ _ => 0x12
  | .sra _ _ _ => 0x12
  | .mskwh _ _ _ => 0x12
  | .inswh _ _ _ => 0x12
  | .extwh _ _ _ => 0x12
  | .msklh _ _ _ => 0x12
  | .inslh _ _ _ => 0x12
  | .extlh _ _ _ => 0x12
  | .mskqh _ _ _ => 0x12
  | .insqh _ _ _ => 0x12
  | .extqh _ _ _ => 0x12
  | .mull _ _ _ => 0x13
  | .mulq _ _ _ => 0x13
  | .umulh _ _ _ => 0x13
  | .mullV _ _ _ => 0x13
  | .mulqV _ _ _ => 0x13
  | .itfp _ _ _ _ => 0x14
  | .fltv _ _ _ _ => 0x15
  | .flti _ _ _ _ => 0x16
  | .fltl _ _ _ _ => 0x17
  | .trapb => 0x18
  | .excb => 0x18
  | .mb => 0x18
  | .wmb => 0x18
  | .fetch _ => 0x18
  | .fetchM _ => 0x18
  | .rpcc _ => 0x18
  | .rc _ => 0x18
  | .ecb _ => 0x18
  | .rs _ => 0x18
  | .wh64 _ => 0x18
  | .hwMfpr _ _ => 0x19
  | .jmp _ _ => 0x1A
  | .jsr _ _ => 0x1A
  | .ret _ _ => 0x1A
  | .jsrCoroutine _ _ => 0x1A
  | .hwLd _ _ _ _ => 0x1B
  | .sextb _ _ => 0x1C
  | .sextw _ _ => 0x1C
  | .hwMtpr _ _ => 0x1D
  | .hwRei _ _ => 0x1E
  | .hwSt _ _ _ _ => 0x1F
  | .ldf _ _ _ => 0x20
  | .ldg _ _ _ => 0x21
  | .lds _ _ _ => 0x22
  | .ldt _ _ _ => 0x23
  | .stf _ _ _ => 0x24
  | .stg _ _ _ => 0x25
  | .sts _ _ _ => 0x26
  | .stt _ _ _ => 0x27
  | .ldl _ _ _ => 0x28
  | .ldq _ _ _ => 0x29
  | .ldlL _ _ _ => 0x2A
  | .ldqL _ _ _ => 0x2B
  | .stl _ _ _ => 0x2C
  | .stq _ _ _ => 0x2D
  | .stlC _ _ _ => 0x2E
  | .stqC _ _ _ => 0x2F
  | .br _ _ => 0x30
  | .fbeq _ _ => 0x31
  | .fblt _ _ => 0x32
  | .fble _ _ => 0x33
  | .bsr _ _ => 0x34
  | .fbne _ _ => 0x35
  | .fbge _ _ => 0x36
  | .fbgt _ _ => 0x37
  | .blbc _ _ => 0x38
  | .beq _ _ => 0x39
  | .blt _ _ => 0x3A
  | .ble _ _ => 0x3B
  | .blbs _ _ => 0x3C
  | .bne _ _ => 0x3D
  | .bge _ _ => 0x3E
  | .bgt _ _ => 0x3F

/-- The opcode field of the encoded word is the table's. -/
def EncodeOpcode.Statement (i : Instr) : Prop := fieldOp (encode i) = majorOpcode i

open Sys2Proof.Machine

theorem EncodeOpcode.callPal (mbz : BitVec 18) (cls : Bool) (n : BitVec 7) : EncodeOpcode.Statement (.callPal mbz cls n) :=
  (extract_high (0x00#6 ++ mbz ++ BitVec.ofBool cls) n 26 6 (by omega)).trans <|
    (extract_high (0x00#6 ++ mbz) (BitVec.ofBool cls) 19 6 (by omega)).trans <|
    (extract_high 0x00#6 mbz 18 6 (by omega)).trans (extract_whole 0x00#6)
theorem EncodeOpcode.opc01 : EncodeOpcode.Statement (.opc01) := rfl
theorem EncodeOpcode.opc02 : EncodeOpcode.Statement (.opc02) := rfl
theorem EncodeOpcode.opc03 : EncodeOpcode.Statement (.opc03) := rfl
theorem EncodeOpcode.opc04 : EncodeOpcode.Statement (.opc04) := rfl
theorem EncodeOpcode.opc05 : EncodeOpcode.Statement (.opc05) := rfl
theorem EncodeOpcode.opc06 : EncodeOpcode.Statement (.opc06) := rfl
theorem EncodeOpcode.opc07 : EncodeOpcode.Statement (.opc07) := rfl
theorem EncodeOpcode.lda (ra rb : Reg) (disp : BitVec 16) : EncodeOpcode.Statement (.lda ra rb disp) :=
  fieldOp_encMem _ _ _ _
theorem EncodeOpcode.ldah (ra rb : Reg) (disp : BitVec 16) : EncodeOpcode.Statement (.ldah ra rb disp) :=
  fieldOp_encMem _ _ _ _
theorem EncodeOpcode.ldbu (ra rb : Reg) (disp : BitVec 16) : EncodeOpcode.Statement (.ldbu ra rb disp) :=
  fieldOp_encMem _ _ _ _
theorem EncodeOpcode.ldqU (ra rb : Reg) (disp : BitVec 16) : EncodeOpcode.Statement (.ldqU ra rb disp) :=
  fieldOp_encMem _ _ _ _
theorem EncodeOpcode.ldwu (ra rb : Reg) (disp : BitVec 16) : EncodeOpcode.Statement (.ldwu ra rb disp) :=
  fieldOp_encMem _ _ _ _
theorem EncodeOpcode.stw (ra rb : Reg) (disp : BitVec 16) : EncodeOpcode.Statement (.stw ra rb disp) :=
  fieldOp_encMem _ _ _ _
theorem EncodeOpcode.stb (ra rb : Reg) (disp : BitVec 16) : EncodeOpcode.Statement (.stb ra rb disp) :=
  fieldOp_encMem _ _ _ _
theorem EncodeOpcode.stqU (ra rb : Reg) (disp : BitVec 16) : EncodeOpcode.Statement (.stqU ra rb disp) :=
  fieldOp_encMem _ _ _ _
theorem EncodeOpcode.addl (ra : Reg) (b : Operand) (rc : Reg) : EncodeOpcode.Statement (.addl ra b rc) :=
  fieldOp_encOpr _ _ _ _ _
theorem EncodeOpcode.s4addl (ra : Reg) (b : Operand) (rc : Reg) : EncodeOpcode.Statement (.s4addl ra b rc) :=
  fieldOp_encOpr _ _ _ _ _
theorem EncodeOpcode.subl (ra : Reg) (b : Operand) (rc : Reg) : EncodeOpcode.Statement (.subl ra b rc) :=
  fieldOp_encOpr _ _ _ _ _
theorem EncodeOpcode.s4subl (ra : Reg) (b : Operand) (rc : Reg) : EncodeOpcode.Statement (.s4subl ra b rc) :=
  fieldOp_encOpr _ _ _ _ _
theorem EncodeOpcode.cmpbge (ra : Reg) (b : Operand) (rc : Reg) : EncodeOpcode.Statement (.cmpbge ra b rc) :=
  fieldOp_encOpr _ _ _ _ _
theorem EncodeOpcode.s8addl (ra : Reg) (b : Operand) (rc : Reg) : EncodeOpcode.Statement (.s8addl ra b rc) :=
  fieldOp_encOpr _ _ _ _ _
theorem EncodeOpcode.s8subl (ra : Reg) (b : Operand) (rc : Reg) : EncodeOpcode.Statement (.s8subl ra b rc) :=
  fieldOp_encOpr _ _ _ _ _
theorem EncodeOpcode.cmpult (ra : Reg) (b : Operand) (rc : Reg) : EncodeOpcode.Statement (.cmpult ra b rc) :=
  fieldOp_encOpr _ _ _ _ _
theorem EncodeOpcode.addq (ra : Reg) (b : Operand) (rc : Reg) : EncodeOpcode.Statement (.addq ra b rc) :=
  fieldOp_encOpr _ _ _ _ _
theorem EncodeOpcode.s4addq (ra : Reg) (b : Operand) (rc : Reg) : EncodeOpcode.Statement (.s4addq ra b rc) :=
  fieldOp_encOpr _ _ _ _ _
theorem EncodeOpcode.subq (ra : Reg) (b : Operand) (rc : Reg) : EncodeOpcode.Statement (.subq ra b rc) :=
  fieldOp_encOpr _ _ _ _ _
theorem EncodeOpcode.s4subq (ra : Reg) (b : Operand) (rc : Reg) : EncodeOpcode.Statement (.s4subq ra b rc) :=
  fieldOp_encOpr _ _ _ _ _
theorem EncodeOpcode.cmpeq (ra : Reg) (b : Operand) (rc : Reg) : EncodeOpcode.Statement (.cmpeq ra b rc) :=
  fieldOp_encOpr _ _ _ _ _
theorem EncodeOpcode.s8addq (ra : Reg) (b : Operand) (rc : Reg) : EncodeOpcode.Statement (.s8addq ra b rc) :=
  fieldOp_encOpr _ _ _ _ _
theorem EncodeOpcode.s8subq (ra : Reg) (b : Operand) (rc : Reg) : EncodeOpcode.Statement (.s8subq ra b rc) :=
  fieldOp_encOpr _ _ _ _ _
theorem EncodeOpcode.cmpule (ra : Reg) (b : Operand) (rc : Reg) : EncodeOpcode.Statement (.cmpule ra b rc) :=
  fieldOp_encOpr _ _ _ _ _
theorem EncodeOpcode.addlV (ra : Reg) (b : Operand) (rc : Reg) : EncodeOpcode.Statement (.addlV ra b rc) :=
  fieldOp_encOpr _ _ _ _ _
theorem EncodeOpcode.sublV (ra : Reg) (b : Operand) (rc : Reg) : EncodeOpcode.Statement (.sublV ra b rc) :=
  fieldOp_encOpr _ _ _ _ _
theorem EncodeOpcode.cmplt (ra : Reg) (b : Operand) (rc : Reg) : EncodeOpcode.Statement (.cmplt ra b rc) :=
  fieldOp_encOpr _ _ _ _ _
theorem EncodeOpcode.addqV (ra : Reg) (b : Operand) (rc : Reg) : EncodeOpcode.Statement (.addqV ra b rc) :=
  fieldOp_encOpr _ _ _ _ _
theorem EncodeOpcode.subqV (ra : Reg) (b : Operand) (rc : Reg) : EncodeOpcode.Statement (.subqV ra b rc) :=
  fieldOp_encOpr _ _ _ _ _
theorem EncodeOpcode.cmple (ra : Reg) (b : Operand) (rc : Reg) : EncodeOpcode.Statement (.cmple ra b rc) :=
  fieldOp_encOpr _ _ _ _ _
theorem EncodeOpcode.and (ra : Reg) (b : Operand) (rc : Reg) : EncodeOpcode.Statement (.and ra b rc) :=
  fieldOp_encOpr _ _ _ _ _
theorem EncodeOpcode.bic (ra : Reg) (b : Operand) (rc : Reg) : EncodeOpcode.Statement (.bic ra b rc) :=
  fieldOp_encOpr _ _ _ _ _
theorem EncodeOpcode.cmovlbs (ra : Reg) (b : Operand) (rc : Reg) : EncodeOpcode.Statement (.cmovlbs ra b rc) :=
  fieldOp_encOpr _ _ _ _ _
theorem EncodeOpcode.cmovlbc (ra : Reg) (b : Operand) (rc : Reg) : EncodeOpcode.Statement (.cmovlbc ra b rc) :=
  fieldOp_encOpr _ _ _ _ _
theorem EncodeOpcode.bis (ra : Reg) (b : Operand) (rc : Reg) : EncodeOpcode.Statement (.bis ra b rc) :=
  fieldOp_encOpr _ _ _ _ _
theorem EncodeOpcode.cmoveq (ra : Reg) (b : Operand) (rc : Reg) : EncodeOpcode.Statement (.cmoveq ra b rc) :=
  fieldOp_encOpr _ _ _ _ _
theorem EncodeOpcode.cmovne (ra : Reg) (b : Operand) (rc : Reg) : EncodeOpcode.Statement (.cmovne ra b rc) :=
  fieldOp_encOpr _ _ _ _ _
theorem EncodeOpcode.ornot (ra : Reg) (b : Operand) (rc : Reg) : EncodeOpcode.Statement (.ornot ra b rc) :=
  fieldOp_encOpr _ _ _ _ _
theorem EncodeOpcode.xor (ra : Reg) (b : Operand) (rc : Reg) : EncodeOpcode.Statement (.xor ra b rc) :=
  fieldOp_encOpr _ _ _ _ _
theorem EncodeOpcode.cmovlt (ra : Reg) (b : Operand) (rc : Reg) : EncodeOpcode.Statement (.cmovlt ra b rc) :=
  fieldOp_encOpr _ _ _ _ _
theorem EncodeOpcode.cmovge (ra : Reg) (b : Operand) (rc : Reg) : EncodeOpcode.Statement (.cmovge ra b rc) :=
  fieldOp_encOpr _ _ _ _ _
theorem EncodeOpcode.eqv (ra : Reg) (b : Operand) (rc : Reg) : EncodeOpcode.Statement (.eqv ra b rc) :=
  fieldOp_encOpr _ _ _ _ _
theorem EncodeOpcode.amask (b : Operand) (rc : Reg) : EncodeOpcode.Statement (.amask b rc) :=
  fieldOp_encOpr _ _ _ _ _
theorem EncodeOpcode.cmovle (ra : Reg) (b : Operand) (rc : Reg) : EncodeOpcode.Statement (.cmovle ra b rc) :=
  fieldOp_encOpr _ _ _ _ _
theorem EncodeOpcode.cmovgt (ra : Reg) (b : Operand) (rc : Reg) : EncodeOpcode.Statement (.cmovgt ra b rc) :=
  fieldOp_encOpr _ _ _ _ _
theorem EncodeOpcode.implver (rc : Reg) : EncodeOpcode.Statement (.implver rc) :=
  fieldOp_encOpr _ _ _ _ _
theorem EncodeOpcode.mskbl (ra : Reg) (b : Operand) (rc : Reg) : EncodeOpcode.Statement (.mskbl ra b rc) :=
  fieldOp_encOpr _ _ _ _ _
theorem EncodeOpcode.extbl (ra : Reg) (b : Operand) (rc : Reg) : EncodeOpcode.Statement (.extbl ra b rc) :=
  fieldOp_encOpr _ _ _ _ _
theorem EncodeOpcode.insbl (ra : Reg) (b : Operand) (rc : Reg) : EncodeOpcode.Statement (.insbl ra b rc) :=
  fieldOp_encOpr _ _ _ _ _
theorem EncodeOpcode.mskwl (ra : Reg) (b : Operand) (rc : Reg) : EncodeOpcode.Statement (.mskwl ra b rc) :=
  fieldOp_encOpr _ _ _ _ _
theorem EncodeOpcode.extwl (ra : Reg) (b : Operand) (rc : Reg) : EncodeOpcode.Statement (.extwl ra b rc) :=
  fieldOp_encOpr _ _ _ _ _
theorem EncodeOpcode.inswl (ra : Reg) (b : Operand) (rc : Reg) : EncodeOpcode.Statement (.inswl ra b rc) :=
  fieldOp_encOpr _ _ _ _ _
theorem EncodeOpcode.mskll (ra : Reg) (b : Operand) (rc : Reg) : EncodeOpcode.Statement (.mskll ra b rc) :=
  fieldOp_encOpr _ _ _ _ _
theorem EncodeOpcode.extll (ra : Reg) (b : Operand) (rc : Reg) : EncodeOpcode.Statement (.extll ra b rc) :=
  fieldOp_encOpr _ _ _ _ _
theorem EncodeOpcode.insll (ra : Reg) (b : Operand) (rc : Reg) : EncodeOpcode.Statement (.insll ra b rc) :=
  fieldOp_encOpr _ _ _ _ _
theorem EncodeOpcode.zap (ra : Reg) (b : Operand) (rc : Reg) : EncodeOpcode.Statement (.zap ra b rc) :=
  fieldOp_encOpr _ _ _ _ _
theorem EncodeOpcode.zapnot (ra : Reg) (b : Operand) (rc : Reg) : EncodeOpcode.Statement (.zapnot ra b rc) :=
  fieldOp_encOpr _ _ _ _ _
theorem EncodeOpcode.mskql (ra : Reg) (b : Operand) (rc : Reg) : EncodeOpcode.Statement (.mskql ra b rc) :=
  fieldOp_encOpr _ _ _ _ _
theorem EncodeOpcode.srl (ra : Reg) (b : Operand) (rc : Reg) : EncodeOpcode.Statement (.srl ra b rc) :=
  fieldOp_encOpr _ _ _ _ _
theorem EncodeOpcode.extql (ra : Reg) (b : Operand) (rc : Reg) : EncodeOpcode.Statement (.extql ra b rc) :=
  fieldOp_encOpr _ _ _ _ _
theorem EncodeOpcode.sll (ra : Reg) (b : Operand) (rc : Reg) : EncodeOpcode.Statement (.sll ra b rc) :=
  fieldOp_encOpr _ _ _ _ _
theorem EncodeOpcode.insql (ra : Reg) (b : Operand) (rc : Reg) : EncodeOpcode.Statement (.insql ra b rc) :=
  fieldOp_encOpr _ _ _ _ _
theorem EncodeOpcode.sra (ra : Reg) (b : Operand) (rc : Reg) : EncodeOpcode.Statement (.sra ra b rc) :=
  fieldOp_encOpr _ _ _ _ _
theorem EncodeOpcode.mskwh (ra : Reg) (b : Operand) (rc : Reg) : EncodeOpcode.Statement (.mskwh ra b rc) :=
  fieldOp_encOpr _ _ _ _ _
theorem EncodeOpcode.inswh (ra : Reg) (b : Operand) (rc : Reg) : EncodeOpcode.Statement (.inswh ra b rc) :=
  fieldOp_encOpr _ _ _ _ _
theorem EncodeOpcode.extwh (ra : Reg) (b : Operand) (rc : Reg) : EncodeOpcode.Statement (.extwh ra b rc) :=
  fieldOp_encOpr _ _ _ _ _
theorem EncodeOpcode.msklh (ra : Reg) (b : Operand) (rc : Reg) : EncodeOpcode.Statement (.msklh ra b rc) :=
  fieldOp_encOpr _ _ _ _ _
theorem EncodeOpcode.inslh (ra : Reg) (b : Operand) (rc : Reg) : EncodeOpcode.Statement (.inslh ra b rc) :=
  fieldOp_encOpr _ _ _ _ _
theorem EncodeOpcode.extlh (ra : Reg) (b : Operand) (rc : Reg) : EncodeOpcode.Statement (.extlh ra b rc) :=
  fieldOp_encOpr _ _ _ _ _
theorem EncodeOpcode.mskqh (ra : Reg) (b : Operand) (rc : Reg) : EncodeOpcode.Statement (.mskqh ra b rc) :=
  fieldOp_encOpr _ _ _ _ _
theorem EncodeOpcode.insqh (ra : Reg) (b : Operand) (rc : Reg) : EncodeOpcode.Statement (.insqh ra b rc) :=
  fieldOp_encOpr _ _ _ _ _
theorem EncodeOpcode.extqh (ra : Reg) (b : Operand) (rc : Reg) : EncodeOpcode.Statement (.extqh ra b rc) :=
  fieldOp_encOpr _ _ _ _ _
theorem EncodeOpcode.mull (ra : Reg) (b : Operand) (rc : Reg) : EncodeOpcode.Statement (.mull ra b rc) :=
  fieldOp_encOpr _ _ _ _ _
theorem EncodeOpcode.mulq (ra : Reg) (b : Operand) (rc : Reg) : EncodeOpcode.Statement (.mulq ra b rc) :=
  fieldOp_encOpr _ _ _ _ _
theorem EncodeOpcode.umulh (ra : Reg) (b : Operand) (rc : Reg) : EncodeOpcode.Statement (.umulh ra b rc) :=
  fieldOp_encOpr _ _ _ _ _
theorem EncodeOpcode.mullV (ra : Reg) (b : Operand) (rc : Reg) : EncodeOpcode.Statement (.mullV ra b rc) :=
  fieldOp_encOpr _ _ _ _ _
theorem EncodeOpcode.mulqV (ra : Reg) (b : Operand) (rc : Reg) : EncodeOpcode.Statement (.mulqV ra b rc) :=
  fieldOp_encOpr _ _ _ _ _
theorem EncodeOpcode.itfp (fa fb fc : Reg) (fn : BitVec 11) : EncodeOpcode.Statement (.itfp fa fb fc fn) :=
  fieldOp_encFpo _ _ _ _ _
theorem EncodeOpcode.fltv (fa fb fc : Reg) (fn : BitVec 11) : EncodeOpcode.Statement (.fltv fa fb fc fn) :=
  fieldOp_encFpo _ _ _ _ _
theorem EncodeOpcode.flti (fa fb fc : Reg) (fn : BitVec 11) : EncodeOpcode.Statement (.flti fa fb fc fn) :=
  fieldOp_encFpo _ _ _ _ _
theorem EncodeOpcode.fltl (fa fb fc : Reg) (fn : BitVec 11) : EncodeOpcode.Statement (.fltl fa fb fc fn) :=
  fieldOp_encFpo _ _ _ _ _
theorem EncodeOpcode.trapb : EncodeOpcode.Statement (.trapb) :=
  fieldOp_encMfc _ _ _ _
theorem EncodeOpcode.excb : EncodeOpcode.Statement (.excb) :=
  fieldOp_encMfc _ _ _ _
theorem EncodeOpcode.mb : EncodeOpcode.Statement (.mb) :=
  fieldOp_encMfc _ _ _ _
theorem EncodeOpcode.wmb : EncodeOpcode.Statement (.wmb) :=
  fieldOp_encMfc _ _ _ _
theorem EncodeOpcode.fetch (rb : Reg) : EncodeOpcode.Statement (.fetch rb) :=
  fieldOp_encMfc _ _ _ _
theorem EncodeOpcode.fetchM (rb : Reg) : EncodeOpcode.Statement (.fetchM rb) :=
  fieldOp_encMfc _ _ _ _
theorem EncodeOpcode.rpcc (ra : Reg) : EncodeOpcode.Statement (.rpcc ra) :=
  fieldOp_encMfc _ _ _ _
theorem EncodeOpcode.rc (ra : Reg) : EncodeOpcode.Statement (.rc ra) :=
  fieldOp_encMfc _ _ _ _
theorem EncodeOpcode.ecb (rb : Reg) : EncodeOpcode.Statement (.ecb rb) :=
  fieldOp_encMfc _ _ _ _
theorem EncodeOpcode.rs (ra : Reg) : EncodeOpcode.Statement (.rs ra) :=
  fieldOp_encMfc _ _ _ _
theorem EncodeOpcode.wh64 (rb : Reg) : EncodeOpcode.Statement (.wh64 rb) :=
  fieldOp_encMfc _ _ _ _
theorem EncodeOpcode.hwMfpr (ra : Reg) (index : BitVec 16) : EncodeOpcode.Statement (.hwMfpr ra index) :=
  fieldOp_encMfc _ _ _ _
theorem EncodeOpcode.jmp (ra rb : Reg) : EncodeOpcode.Statement (.jmp ra rb) :=
  fieldOp_encJmp _ _ _
theorem EncodeOpcode.jsr (ra rb : Reg) : EncodeOpcode.Statement (.jsr ra rb) :=
  fieldOp_encJmp _ _ _
theorem EncodeOpcode.ret (ra rb : Reg) : EncodeOpcode.Statement (.ret ra rb) :=
  fieldOp_encJmp _ _ _
theorem EncodeOpcode.jsrCoroutine (ra rb : Reg) : EncodeOpcode.Statement (.jsrCoroutine ra rb) :=
  fieldOp_encJmp _ _ _
theorem EncodeOpcode.hwLd (ra rb : Reg) (q : HwQualifiers) (disp : BitVec 10) : EncodeOpcode.Statement (.hwLd ra rb q disp) :=
  fieldOp_encHwm _ _ _ _ _
theorem EncodeOpcode.sextb (b : Operand) (rc : Reg) : EncodeOpcode.Statement (.sextb b rc) :=
  fieldOp_encOpr _ _ _ _ _
theorem EncodeOpcode.sextw (b : Operand) (rc : Reg) : EncodeOpcode.Statement (.sextw b rc) :=
  fieldOp_encOpr _ _ _ _ _
theorem EncodeOpcode.hwMtpr (rb : Reg) (index : BitVec 16) : EncodeOpcode.Statement (.hwMtpr rb index) :=
  fieldOp_encMfc _ _ _ _
theorem EncodeOpcode.hwRei (rs : Bool) (mbz : BitVec 15) : EncodeOpcode.Statement (.hwRei rs mbz) :=
  (extract_high (0x1E#6 ++ 0x3FF#10 ++ BitVec.ofBool rs) mbz 26 6 (by omega)).trans <|
    (extract_high (0x1E#6 ++ 0x3FF#10) (BitVec.ofBool rs) 11 6 (by omega)).trans <|
    (extract_high 0x1E#6 0x3FF#10 10 6 (by omega)).trans (extract_whole 0x1E#6)
theorem EncodeOpcode.hwSt (ra rb : Reg) (q : HwQualifiers) (disp : BitVec 10) : EncodeOpcode.Statement (.hwSt ra rb q disp) :=
  fieldOp_encHwm _ _ _ _ _
theorem EncodeOpcode.ldf (fa rb : Reg) (disp : BitVec 16) : EncodeOpcode.Statement (.ldf fa rb disp) :=
  fieldOp_encMem _ _ _ _
theorem EncodeOpcode.ldg (fa rb : Reg) (disp : BitVec 16) : EncodeOpcode.Statement (.ldg fa rb disp) :=
  fieldOp_encMem _ _ _ _
theorem EncodeOpcode.lds (fa rb : Reg) (disp : BitVec 16) : EncodeOpcode.Statement (.lds fa rb disp) :=
  fieldOp_encMem _ _ _ _
theorem EncodeOpcode.ldt (fa rb : Reg) (disp : BitVec 16) : EncodeOpcode.Statement (.ldt fa rb disp) :=
  fieldOp_encMem _ _ _ _
theorem EncodeOpcode.stf (fa rb : Reg) (disp : BitVec 16) : EncodeOpcode.Statement (.stf fa rb disp) :=
  fieldOp_encMem _ _ _ _
theorem EncodeOpcode.stg (fa rb : Reg) (disp : BitVec 16) : EncodeOpcode.Statement (.stg fa rb disp) :=
  fieldOp_encMem _ _ _ _
theorem EncodeOpcode.sts (fa rb : Reg) (disp : BitVec 16) : EncodeOpcode.Statement (.sts fa rb disp) :=
  fieldOp_encMem _ _ _ _
theorem EncodeOpcode.stt (fa rb : Reg) (disp : BitVec 16) : EncodeOpcode.Statement (.stt fa rb disp) :=
  fieldOp_encMem _ _ _ _
theorem EncodeOpcode.ldl (ra rb : Reg) (disp : BitVec 16) : EncodeOpcode.Statement (.ldl ra rb disp) :=
  fieldOp_encMem _ _ _ _
theorem EncodeOpcode.ldq (ra rb : Reg) (disp : BitVec 16) : EncodeOpcode.Statement (.ldq ra rb disp) :=
  fieldOp_encMem _ _ _ _
theorem EncodeOpcode.ldlL (ra rb : Reg) (disp : BitVec 16) : EncodeOpcode.Statement (.ldlL ra rb disp) :=
  fieldOp_encMem _ _ _ _
theorem EncodeOpcode.ldqL (ra rb : Reg) (disp : BitVec 16) : EncodeOpcode.Statement (.ldqL ra rb disp) :=
  fieldOp_encMem _ _ _ _
theorem EncodeOpcode.stl (ra rb : Reg) (disp : BitVec 16) : EncodeOpcode.Statement (.stl ra rb disp) :=
  fieldOp_encMem _ _ _ _
theorem EncodeOpcode.stq (ra rb : Reg) (disp : BitVec 16) : EncodeOpcode.Statement (.stq ra rb disp) :=
  fieldOp_encMem _ _ _ _
theorem EncodeOpcode.stlC (ra rb : Reg) (disp : BitVec 16) : EncodeOpcode.Statement (.stlC ra rb disp) :=
  fieldOp_encMem _ _ _ _
theorem EncodeOpcode.stqC (ra rb : Reg) (disp : BitVec 16) : EncodeOpcode.Statement (.stqC ra rb disp) :=
  fieldOp_encMem _ _ _ _
theorem EncodeOpcode.br (ra : Reg) (disp : BitVec 21) : EncodeOpcode.Statement (.br ra disp) :=
  fieldOp_encBra _ _ _
theorem EncodeOpcode.fbeq (fa : Reg) (disp : BitVec 21) : EncodeOpcode.Statement (.fbeq fa disp) :=
  fieldOp_encBra _ _ _
theorem EncodeOpcode.fblt (fa : Reg) (disp : BitVec 21) : EncodeOpcode.Statement (.fblt fa disp) :=
  fieldOp_encBra _ _ _
theorem EncodeOpcode.fble (fa : Reg) (disp : BitVec 21) : EncodeOpcode.Statement (.fble fa disp) :=
  fieldOp_encBra _ _ _
theorem EncodeOpcode.bsr (ra : Reg) (disp : BitVec 21) : EncodeOpcode.Statement (.bsr ra disp) :=
  fieldOp_encBra _ _ _
theorem EncodeOpcode.fbne (fa : Reg) (disp : BitVec 21) : EncodeOpcode.Statement (.fbne fa disp) :=
  fieldOp_encBra _ _ _
theorem EncodeOpcode.fbge (fa : Reg) (disp : BitVec 21) : EncodeOpcode.Statement (.fbge fa disp) :=
  fieldOp_encBra _ _ _
theorem EncodeOpcode.fbgt (fa : Reg) (disp : BitVec 21) : EncodeOpcode.Statement (.fbgt fa disp) :=
  fieldOp_encBra _ _ _
theorem EncodeOpcode.blbc (ra : Reg) (disp : BitVec 21) : EncodeOpcode.Statement (.blbc ra disp) :=
  fieldOp_encBra _ _ _
theorem EncodeOpcode.beq (ra : Reg) (disp : BitVec 21) : EncodeOpcode.Statement (.beq ra disp) :=
  fieldOp_encBra _ _ _
theorem EncodeOpcode.blt (ra : Reg) (disp : BitVec 21) : EncodeOpcode.Statement (.blt ra disp) :=
  fieldOp_encBra _ _ _
theorem EncodeOpcode.ble (ra : Reg) (disp : BitVec 21) : EncodeOpcode.Statement (.ble ra disp) :=
  fieldOp_encBra _ _ _
theorem EncodeOpcode.blbs (ra : Reg) (disp : BitVec 21) : EncodeOpcode.Statement (.blbs ra disp) :=
  fieldOp_encBra _ _ _
theorem EncodeOpcode.bne (ra : Reg) (disp : BitVec 21) : EncodeOpcode.Statement (.bne ra disp) :=
  fieldOp_encBra _ _ _
theorem EncodeOpcode.bge (ra : Reg) (disp : BitVec 21) : EncodeOpcode.Statement (.bge ra disp) :=
  fieldOp_encBra _ _ _
theorem EncodeOpcode.bgt (ra : Reg) (disp : BitVec 21) : EncodeOpcode.Statement (.bgt ra disp) :=
  fieldOp_encBra _ _ _

end Sys2Proof.Laws
end

