-- ==== Sys2Proof/Tests/Slice0.lean ====
section
/-! SUPPORT. Tests: words written out from the encoding table, rows of 95_test_vectors (each test names its section), and
for every statement with hypotheses a concrete state and operands that meet them. -/

namespace Sys2Proof.Tests

set_option Elab.async false

open Sys2Proof Sys2Proof.Machine

/-! ### Helpers -/

/-- Every pair is a word and what it decodes to. -/
def decodesTo (rows : List (BitVec 32 × Instr)) : Bool :=
  rows.all fun p => match decode p.1 with
    | .ok i => i == p.2
    | .error _ => false

/-- HW_LD/PQ. -/
def hwQual : HwQualifiers := { phys := true, alt := false, mbz13 := false, quad := true, mbz11 := false, lock := false }

/-- A state with these integer registers. -/
def withRegs (l : List (Reg × Word)) (s : State) : State := l.foldl (fun s p => s.writeInt p.1 p.2) s

/-- The outcome is a next state with this property. -/
def after {π : Type} (o : Host.Outcome (State π) Fault Refusal) (p : State π → Bool) : Bool :=
  match o with
  | .next t => p t
  | .fault _ => false
  | .refused _ => false

/-- The outcome is this stop. -/
def stops {π : Type} (o : Host.Outcome (State π) Fault Refusal) (f : Fault) : Bool :=
  match o with
  | .next _ => false
  | .fault g => g == f
  | .refused _ => false

/-- A fault was taken: its code, its address, its mode, where it resumes and where firmware is entered. -/
def tookFault (t : State) (code : BitVec 5) (va : Word) (m : Mode) (resume pc : Word) : Bool :=
  t.ps.faultKind == code && t.ps.faultVa == va && t.ps.faultMode == m && t.excAddr == resume && t.pc == pc && t.palMode

/-- `R3` after an operate instruction on `R1` and `R2`, with nothing trapped. -/
def operates (mk : Reg → Operand → Reg → Instr) (x y r : Word) : Bool :=
  after (exec (mk 1 (.reg 2) 3) (withRegs [(1, x), (2, y), (3, 0xDEAD)] State.reset)) fun t =>
    t.readInt 3 == r && t.pc == 4

/-- `R3` after an operate instruction that also traps: IOV with the bit of `R3`, at the trap entry. -/
def operateTraps (mk : Reg → Operand → Reg → Instr) (x y r : Word) : Bool :=
  after (exec (mk 1 (.reg 2) 3) (withRegs [(1, x), (2, y), (3, 0xDEAD)] State.reset)) fun t =>
    t.readInt 3 == r && t.ps.excSum == 0x40 && t.ps.excMask == 8 && t.excAddr == 5 && t.pc == 0x500

/-! ### Well-formedness: an ill-formed term for each check -/

theorem test_wellformed_refuses_callPal_mbz : (Instr.callPal 1 true 0).wellFormed = false := by decide
theorem test_wellformed_refuses_hwLd_bit13 : (Instr.hwLd 1 2 { hwQual with mbz13 := true } 0).wellFormed = false := by
  decide
theorem test_wellformed_refuses_hwLd_bit11 : (Instr.hwLd 1 2 { hwQual with mbz11 := true } 0).wellFormed = false := by
  decide
theorem test_wellformed_refuses_hwSt_bit13 : (Instr.hwSt 1 2 { hwQual with mbz13 := true } 0).wellFormed = false := by
  decide
theorem test_wellformed_refuses_hwSt_bit11 : (Instr.hwSt 1 2 { hwQual with mbz11 := true } 0).wellFormed = false := by
  decide
theorem test_wellformed_refuses_hwRei_mbz : (Instr.hwRei true 1).wellFormed = false := by decide
theorem test_wellformed_accepts : (Instr.callPal 0 false 0x7F).wellFormed = true ∧
    (Instr.hwLd 1 2 hwQual 0x3FF).wellFormed = true ∧ (Instr.hwRei true 0).wellFormed = true := by decide

/-! ### Decoding: a word for every row of the opcode table, both forms of the operate rows -/

/-- Words of the firmware rows, written out from the table of 30_encoding. -/
theorem test_decode_firmware : decodesTo [
  (0x000000D3#32, Instr.callPal 0 true 0x53), (0x65320041#32, Instr.hwMfpr 9 0x0041),
  (0x6D3293F8#32, Instr.hwLd 9 18 hwQual 0x3F8), (0x75320041#32, Instr.hwMtpr 18 0x0041),
  (0x78058000#32, Instr.hwRei true 0), (0x7D3297F8#32, Instr.hwSt 9 18 { hwQual with lock := true } 0x3F8)] = true := by decide +kernel

/-- Words of the reserved opcodes rows, written out from the table of 30_encoding. -/
theorem test_decode_reserved_opcodes : decodesTo [
  (0x04002345#32, Instr.opc01), (0x08002345#32, Instr.opc02), (0x0C002345#32, Instr.opc03),
  (0x10002345#32, Instr.opc04), (0x14002345#32, Instr.opc05), (0x18002345#32, Instr.opc06),
  (0x1C002345#32, Instr.opc07)] = true := by decide +kernel

/-- Words of the integer memory rows, written out from the table of 30_encoding. -/
theorem test_decode_integer_memory : decodesTo [
  (0x2132FFF8#32, Instr.lda 9 18 0xFFF8), (0x2532FFF8#32, Instr.ldah 9 18 0xFFF8),
  (0x2932FFF8#32, Instr.ldbu 9 18 0xFFF8), (0x2D32FFF8#32, Instr.ldqU 9 18 0xFFF8),
  (0x3132FFF8#32, Instr.ldwu 9 18 0xFFF8), (0x3532FFF8#32, Instr.stw 9 18 0xFFF8),
  (0x3932FFF8#32, Instr.stb 9 18 0xFFF8), (0x3D32FFF8#32, Instr.stqU 9 18 0xFFF8),
  (0xA132FFF8#32, Instr.ldl 9 18 0xFFF8), (0xA532FFF8#32, Instr.ldq 9 18 0xFFF8),
  (0xA932FFF8#32, Instr.ldlL 9 18 0xFFF8), (0xAD32FFF8#32, Instr.ldqL 9 18 0xFFF8),
  (0xB132FFF8#32, Instr.stl 9 18 0xFFF8), (0xB532FFF8#32, Instr.stq 9 18 0xFFF8),
  (0xB932FFF8#32, Instr.stlC 9 18 0xFFF8), (0xBD32FFF8#32, Instr.stqC 9 18 0xFFF8)] = true := by decide +kernel

/-- Words of the integer arithmetic rows, written out from the table of 30_encoding. -/
theorem test_decode_integer_arithmetic : decodesTo [
  (0x41320007#32, Instr.addl 9 (.reg 18) 7), (0x4134B007#32, Instr.addl 9 (.lit 0xA5) 7),
  (0x41320047#32, Instr.s4addl 9 (.reg 18) 7), (0x4134B047#32, Instr.s4addl 9 (.lit 0xA5) 7),
  (0x41320127#32, Instr.subl 9 (.reg 18) 7), (0x4134B127#32, Instr.subl 9 (.lit 0xA5) 7),
  (0x41320167#32, Instr.s4subl 9 (.reg 18) 7), (0x4134B167#32, Instr.s4subl 9 (.lit 0xA5) 7),
  (0x413201E7#32, Instr.cmpbge 9 (.reg 18) 7), (0x4134B1E7#32, Instr.cmpbge 9 (.lit 0xA5) 7),
  (0x41320247#32, Instr.s8addl 9 (.reg 18) 7), (0x4134B247#32, Instr.s8addl 9 (.lit 0xA5) 7),
  (0x41320367#32, Instr.s8subl 9 (.reg 18) 7), (0x4134B367#32, Instr.s8subl 9 (.lit 0xA5) 7),
  (0x413203A7#32, Instr.cmpult 9 (.reg 18) 7), (0x4134B3A7#32, Instr.cmpult 9 (.lit 0xA5) 7),
  (0x41320407#32, Instr.addq 9 (.reg 18) 7), (0x4134B407#32, Instr.addq 9 (.lit 0xA5) 7),
  (0x41320447#32, Instr.s4addq 9 (.reg 18) 7), (0x4134B447#32, Instr.s4addq 9 (.lit 0xA5) 7),
  (0x41320527#32, Instr.subq 9 (.reg 18) 7), (0x4134B527#32, Instr.subq 9 (.lit 0xA5) 7),
  (0x41320567#32, Instr.s4subq 9 (.reg 18) 7), (0x4134B567#32, Instr.s4subq 9 (.lit 0xA5) 7),
  (0x413205A7#32, Instr.cmpeq 9 (.reg 18) 7), (0x4134B5A7#32, Instr.cmpeq 9 (.lit 0xA5) 7),
  (0x41320647#32, Instr.s8addq 9 (.reg 18) 7), (0x4134B647#32, Instr.s8addq 9 (.lit 0xA5) 7),
  (0x41320767#32, Instr.s8subq 9 (.reg 18) 7), (0x4134B767#32, Instr.s8subq 9 (.lit 0xA5) 7),
  (0x413207A7#32, Instr.cmpule 9 (.reg 18) 7), (0x4134B7A7#32, Instr.cmpule 9 (.lit 0xA5) 7),
  (0x41320807#32, Instr.addlV 9 (.reg 18) 7), (0x4134B807#32, Instr.addlV 9 (.lit 0xA5) 7),
  (0x41320927#32, Instr.sublV 9 (.reg 18) 7), (0x4134B927#32, Instr.sublV 9 (.lit 0xA5) 7),
  (0x413209A7#32, Instr.cmplt 9 (.reg 18) 7), (0x4134B9A7#32, Instr.cmplt 9 (.lit 0xA5) 7),
  (0x41320C07#32, Instr.addqV 9 (.reg 18) 7), (0x4134BC07#32, Instr.addqV 9 (.lit 0xA5) 7),
  (0x41320D27#32, Instr.subqV 9 (.reg 18) 7), (0x4134BD27#32, Instr.subqV 9 (.lit 0xA5) 7),
  (0x41320DA7#32, Instr.cmple 9 (.reg 18) 7), (0x4134BDA7#32, Instr.cmple 9 (.lit 0xA5) 7)] = true := by decide +kernel

/-- Words of the logical rows, written out from the table of 30_encoding. -/
theorem test_decode_logical : decodesTo [
  (0x45320007#32, Instr.and 9 (.reg 18) 7), (0x4534B007#32, Instr.and 9 (.lit 0xA5) 7),
  (0x45320107#32, Instr.bic 9 (.reg 18) 7), (0x4534B107#32, Instr.bic 9 (.lit 0xA5) 7),
  (0x45320287#32, Instr.cmovlbs 9 (.reg 18) 7), (0x4534B287#32, Instr.cmovlbs 9 (.lit 0xA5) 7),
  (0x453202C7#32, Instr.cmovlbc 9 (.reg 18) 7), (0x4534B2C7#32, Instr.cmovlbc 9 (.lit 0xA5) 7),
  (0x45320407#32, Instr.bis 9 (.reg 18) 7), (0x4534B407#32, Instr.bis 9 (.lit 0xA5) 7),
  (0x45320487#32, Instr.cmoveq 9 (.reg 18) 7), (0x4534B487#32, Instr.cmoveq 9 (.lit 0xA5) 7),
  (0x453204C7#32, Instr.cmovne 9 (.reg 18) 7), (0x4534B4C7#32, Instr.cmovne 9 (.lit 0xA5) 7),
  (0x45320507#32, Instr.ornot 9 (.reg 18) 7), (0x4534B507#32, Instr.ornot 9 (.lit 0xA5) 7),
  (0x45320807#32, Instr.xor 9 (.reg 18) 7), (0x4534B807#32, Instr.xor 9 (.lit 0xA5) 7),
  (0x45320887#32, Instr.cmovlt 9 (.reg 18) 7), (0x4534B887#32, Instr.cmovlt 9 (.lit 0xA5) 7),
  (0x453208C7#32, Instr.cmovge 9 (.reg 18) 7), (0x4534B8C7#32, Instr.cmovge 9 (.lit 0xA5) 7),
  (0x45320907#32, Instr.eqv 9 (.reg 18) 7), (0x4534B907#32, Instr.eqv 9 (.lit 0xA5) 7),
  (0x45320C27#32, Instr.amask (.reg 18) 7), (0x4534BC27#32, Instr.amask (.lit 0xA5) 7),
  (0x45320C87#32, Instr.cmovle 9 (.reg 18) 7), (0x4534BC87#32, Instr.cmovle 9 (.lit 0xA5) 7),
  (0x45320CC7#32, Instr.cmovgt 9 (.reg 18) 7), (0x4534BCC7#32, Instr.cmovgt 9 (.lit 0xA5) 7),
  (0x45320D87#32, Instr.implver 7), (0x4534BD87#32, Instr.implver 7)] = true := by decide +kernel

/-- Words of the shifts and bytes rows, written out from the table of 30_encoding. -/
theorem test_decode_shifts_and_bytes : decodesTo [
  (0x49320047#32, Instr.mskbl 9 (.reg 18) 7), (0x4934B047#32, Instr.mskbl 9 (.lit 0xA5) 7),
  (0x493200C7#32, Instr.extbl 9 (.reg 18) 7), (0x4934B0C7#32, Instr.extbl 9 (.lit 0xA5) 7),
  (0x49320167#32, Instr.insbl 9 (.reg 18) 7), (0x4934B167#32, Instr.insbl 9 (.lit 0xA5) 7),
  (0x49320247#32, Instr.mskwl 9 (.reg 18) 7), (0x4934B247#32, Instr.mskwl 9 (.lit 0xA5) 7),
  (0x493202C7#32, Instr.extwl 9 (.reg 18) 7), (0x4934B2C7#32, Instr.extwl 9 (.lit 0xA5) 7),
  (0x49320367#32, Instr.inswl 9 (.reg 18) 7), (0x4934B367#32, Instr.inswl 9 (.lit 0xA5) 7),
  (0x49320447#32, Instr.mskll 9 (.reg 18) 7), (0x4934B447#32, Instr.mskll 9 (.lit 0xA5) 7),
  (0x493204C7#32, Instr.extll 9 (.reg 18) 7), (0x4934B4C7#32, Instr.extll 9 (.lit 0xA5) 7),
  (0x49320567#32, Instr.insll 9 (.reg 18) 7), (0x4934B567#32, Instr.insll 9 (.lit 0xA5) 7),
  (0x49320607#32, Instr.zap 9 (.reg 18) 7), (0x4934B607#32, Instr.zap 9 (.lit 0xA5) 7),
  (0x49320627#32, Instr.zapnot 9 (.reg 18) 7), (0x4934B627#32, Instr.zapnot 9 (.lit 0xA5) 7),
  (0x49320647#32, Instr.mskql 9 (.reg 18) 7), (0x4934B647#32, Instr.mskql 9 (.lit 0xA5) 7),
  (0x49320687#32, Instr.srl 9 (.reg 18) 7), (0x4934B687#32, Instr.srl 9 (.lit 0xA5) 7),
  (0x493206C7#32, Instr.extql 9 (.reg 18) 7), (0x4934B6C7#32, Instr.extql 9 (.lit 0xA5) 7),
  (0x49320727#32, Instr.sll 9 (.reg 18) 7), (0x4934B727#32, Instr.sll 9 (.lit 0xA5) 7),
  (0x49320767#32, Instr.insql 9 (.reg 18) 7), (0x4934B767#32, Instr.insql 9 (.lit 0xA5) 7),
  (0x49320787#32, Instr.sra 9 (.reg 18) 7), (0x4934B787#32, Instr.sra 9 (.lit 0xA5) 7),
  (0x49320A47#32, Instr.mskwh 9 (.reg 18) 7), (0x4934BA47#32, Instr.mskwh 9 (.lit 0xA5) 7),
  (0x49320AE7#32, Instr.inswh 9 (.reg 18) 7), (0x4934BAE7#32, Instr.inswh 9 (.lit 0xA5) 7),
  (0x49320B47#32, Instr.extwh 9 (.reg 18) 7), (0x4934BB47#32, Instr.extwh 9 (.lit 0xA5) 7),
  (0x49320C47#32, Instr.msklh 9 (.reg 18) 7), (0x4934BC47#32, Instr.msklh 9 (.lit 0xA5) 7),
  (0x49320CE7#32, Instr.inslh 9 (.reg 18) 7), (0x4934BCE7#32, Instr.inslh 9 (.lit 0xA5) 7),
  (0x49320D47#32, Instr.extlh 9 (.reg 18) 7), (0x4934BD47#32, Instr.extlh 9 (.lit 0xA5) 7),
  (0x49320E47#32, Instr.mskqh 9 (.reg 18) 7), (0x4934BE47#32, Instr.mskqh 9 (.lit 0xA5) 7),
  (0x49320EE7#32, Instr.insqh 9 (.reg 18) 7), (0x4934BEE7#32, Instr.insqh 9 (.lit 0xA5) 7),
  (0x49320F47#32, Instr.extqh 9 (.reg 18) 7), (0x4934BF47#32, Instr.extqh 9 (.lit 0xA5) 7)] = true := by decide +kernel

/-- Words of the multiplies rows, written out from the table of 30_encoding. -/
theorem test_decode_multiplies : decodesTo [
  (0x4D320007#32, Instr.mull 9 (.reg 18) 7), (0x4D34B007#32, Instr.mull 9 (.lit 0xA5) 7),
  (0x4D320407#32, Instr.mulq 9 (.reg 18) 7), (0x4D34B407#32, Instr.mulq 9 (.lit 0xA5) 7),
  (0x4D320607#32, Instr.umulh 9 (.reg 18) 7), (0x4D34B607#32, Instr.umulh 9 (.lit 0xA5) 7),
  (0x4D320807#32, Instr.mullV 9 (.reg 18) 7), (0x4D34B807#32, Instr.mullV 9 (.lit 0xA5) 7),
  (0x4D320C07#32, Instr.mulqV 9 (.reg 18) 7), (0x4D34BC07#32, Instr.mulqV 9 (.lit 0xA5) 7)] = true := by decide +kernel

/-- Words of the floating operate rows, written out from the table of 30_encoding. -/
theorem test_decode_floating_operate : decodesTo [
  (0x51321467#32, Instr.itfp 9 18 7 0x0A3), (0x55321467#32, Instr.fltv 9 18 7 0x0A3),
  (0x59321467#32, Instr.flti 9 18 7 0x0A3), (0x5D321467#32, Instr.fltl 9 18 7 0x0A3)] = true := by decide +kernel

/-- Words of the miscellaneous rows, written out from the table of 30_encoding. -/
theorem test_decode_miscellaneous : decodesTo [
  (0x61320000#32, Instr.trapb), (0x61320400#32, Instr.excb), (0x61324000#32, Instr.mb), (0x61324400#32, Instr.wmb),
  (0x61328000#32, Instr.fetch 18), (0x6132A000#32, Instr.fetchM 18), (0x6132C000#32, Instr.rpcc 9),
  (0x6132E000#32, Instr.rc 9), (0x6132E800#32, Instr.ecb 18), (0x6132F000#32, Instr.rs 9),
  (0x6132F800#32, Instr.wh64 18)] = true := by decide +kernel

/-- Words of the jumps rows, written out from the table of 30_encoding. -/
theorem test_decode_jumps : decodesTo [
  (0x69322AAA#32, Instr.jmp 9 18), (0x69326AAA#32, Instr.jsr 9 18), (0x6932AAAA#32, Instr.ret 9 18),
  (0x6932EAAA#32, Instr.jsrCoroutine 9 18)] = true := by decide +kernel

/-- Words of the sign extension rows, written out from the table of 30_encoding. -/
theorem test_decode_sign_extension : decodesTo [
  (0x71320007#32, Instr.sextb (.reg 18) 7), (0x7134B007#32, Instr.sextb (.lit 0xA5) 7),
  (0x71320027#32, Instr.sextw (.reg 18) 7), (0x7134B027#32, Instr.sextw (.lit 0xA5) 7)] = true := by decide +kernel

/-- Words of the floating memory rows, written out from the table of 30_encoding. -/
theorem test_decode_floating_memory : decodesTo [
  (0x8132FFF8#32, Instr.ldf 9 18 0xFFF8), (0x8532FFF8#32, Instr.ldg 9 18 0xFFF8),
  (0x8932FFF8#32, Instr.lds 9 18 0xFFF8), (0x8D32FFF8#32, Instr.ldt 9 18 0xFFF8),
  (0x9132FFF8#32, Instr.stf 9 18 0xFFF8), (0x9532FFF8#32, Instr.stg 9 18 0xFFF8),
  (0x9932FFF8#32, Instr.sts 9 18 0xFFF8), (0x9D32FFF8#32, Instr.stt 9 18 0xFFF8)] = true := by decide +kernel

/-- Words of the branches rows, written out from the table of 30_encoding. -/
theorem test_decode_branches : decodesTo [
  (0xC13FFFFE#32, Instr.br 9 0x1FFFFE), (0xC53FFFFE#32, Instr.fbeq 9 0x1FFFFE),
  (0xC93FFFFE#32, Instr.fblt 9 0x1FFFFE), (0xCD3FFFFE#32, Instr.fble 9 0x1FFFFE),
  (0xD13FFFFE#32, Instr.bsr 9 0x1FFFFE), (0xD53FFFFE#32, Instr.fbne 9 0x1FFFFE),
  (0xD93FFFFE#32, Instr.fbge 9 0x1FFFFE), (0xDD3FFFFE#32, Instr.fbgt 9 0x1FFFFE),
  (0xE13FFFFE#32, Instr.blbc 9 0x1FFFFE), (0xE53FFFFE#32, Instr.beq 9 0x1FFFFE),
  (0xE93FFFFE#32, Instr.blt 9 0x1FFFFE), (0xED3FFFFE#32, Instr.ble 9 0x1FFFFE),
  (0xF13FFFFE#32, Instr.blbs 9 0x1FFFFE), (0xF53FFFFE#32, Instr.bne 9 0x1FFFFE),
  (0xF93FFFFE#32, Instr.bge 9 0x1FFFFE), (0xFD3FFFFE#32, Instr.bgt 9 0x1FFFFE)] = true := by decide +kernel
/-- Ignored bits and rejected functions (95_test_vectors B7, B9, B10). -/
theorem test_decode_ignored_and_rejected : decodesTo [(0x60004000#32, .mb), (0x6BFB0001#32, .jmp 31 27),
    (0x78000000#32, .hwRei false 0), (0x7BFF0001#32, .hwRei false 1), (0x00000183#32, .callPal 1 true 3),
    (0xFFFFFFFF#32, .bgt 31 0x1FFFFF)] = true ∧
    (decode 0x63FF0001).toOption = none ∧ (decode 0x603FC001).toOption = none ∧
      (decode 0x40000020).toOption = none := by
  decide +kernel

/-- The host's view of a table word and of the next instruction: `LDQ R1, 8(R2)`. -/
theorem test_table_word : decodeTableWord 32 0xA4220008 = some (.ldq 1 2 8) ∧
    decodeTableWord 32 0x63FF0001 = none := by decide +kernel

/-- `BIS R31, #255, R1` placed where the first instruction after reset is fetched, and run. -/
theorem test_fetch_word_runs : after (step (State.reset.withFetchWord 32 0x47FFF401)) (fun t =>
    t.readInt 1 == 255 && t.pc == 4) = true := by decide +kernel

/-! ### Operate instructions -/

/-- Rows of 95_test_vectors B3. -/
theorem test_integer_arithmetic : (
  operates .addl 0x000000007FFFFFFF 0x1 0xFFFFFFFF80000000 &&
  operates .addl 0x00000000FFFFFFFF 0x1 0x0000000000000000 &&
  operateTraps .addlV 0x000000007FFFFFFF 0x1 0xFFFFFFFF80000000 &&
  operateTraps .addlV 0x123456787FFFFFFF 0x1 0xFFFFFFFF80000000 && operates .s4addl 0x3 0x5 0x0000000000000011 &&
  operates .s4addl 0x0000000040000000 0x0 0x0000000000000000 && operates .s8addl 0x3 0x5 0x000000000000001D &&
  operates .subl 0x0 0x1 0xFFFFFFFFFFFFFFFF && operateTraps .sublV 0x0000000080000000 0x1 0x000000007FFFFFFF &&
  operates .s4subl 0x3 0x5 0x0000000000000007 && operates .s8subl 0x3 0x5 0x0000000000000013 &&
  operates .addq 0xFFFFFFFFFFFFFFFF 0x1 0x0000000000000000 &&
  operateTraps .addqV 0x7FFFFFFFFFFFFFFF 0x1 0x8000000000000000 &&
  operates .addqV 0x8000000000000000 0x0 0x8000000000000000 && operates .s4addq 0x3 0x5 0x0000000000000011 &&
  operates .s8addq 0x2000000000000000 0x1 0x0000000000000001 && operates .subq 0x0 0x1 0xFFFFFFFFFFFFFFFF &&
  operateTraps .subqV 0x8000000000000000 0x1 0x7FFFFFFFFFFFFFFF &&
  operateTraps .subqV 0x0 0x8000000000000000 0x8000000000000000 && operates .s4subq 0x3 0x5 0x0000000000000007 &&
  operates .s8subq 0x3 0x5 0x0000000000000013 && operates .cmpeq 0x5 0x5 1 &&
  operates .cmplt 0xFFFFFFFFFFFFFFFF 0x0 1 && operates .cmplt 0x8000000000000000 0x7FFFFFFFFFFFFFFF 1 &&
  operates .cmple 0x5 0x5 1 && operates .cmpult 0xFFFFFFFFFFFFFFFF 0x0 0 &&
  operates .cmpult 0x0 0xFFFFFFFFFFFFFFFF 1 && operates .cmpule 0x5 0x5 1 &&
  operates .cmpbge 0x8877665544332211 0x4444444444444444 0xF8 &&
  operates .cmpbge 0x00FF00FF00FF00FF 0x0100010001000100 0x55) = true := by decide +kernel

/-- Rows of 95_test_vectors B3. -/
theorem test_multiplies : (
  operates .mull 0x10000 0x10000 0x0000000000000000 && operates .mull 0xFFFF 0x10001 0xFFFFFFFFFFFFFFFF &&
  operateTraps .mullV 0x10000 0x8000 0xFFFFFFFF80000000 &&
  operates .mullV 0x00000000FFFFFFFF 0x00000000FFFFFFFF 0x0000000000000001 &&
  operates .mulq 0x0000000100000000 0x0000000100000000 0x0000000000000000 &&
  operateTraps .mulqV 0x0000000100000000 0x0000000100000000 0x0000000000000000 &&
  operates .mulqV 0xFFFFFFFFFFFFFFFF 0xFFFFFFFFFFFFFFFF 0x0000000000000001 &&
  operates .umulh 0xFFFFFFFFFFFFFFFF 0xFFFFFFFFFFFFFFFF 0xFFFFFFFFFFFFFFFE &&
  operates .umulh 0x8000000000000000 0x2 0x0000000000000001) = true := by decide +kernel

/-- Rows of 95_test_vectors B4. -/
theorem test_logical_and_moves : (
  operates .and 0x8877665544332211 0xFF00FF00FF00FF00 0x8800660044002200 &&
  operates .bic 0x8877665544332211 0xFF00FF00FF00FF00 0x0077005500330011 &&
  operates .bis 0x8877665544332211 0xFF 0x88776655443322FF && operates .ornot 0x0 0xFF 0xFFFFFFFFFFFFFF00 &&
  operates .xor 0x8877665544332211 0x8877665544332211 0x0 &&
  operates .eqv 0x8877665544332211 0x8877665544332211 0xFFFFFFFFFFFFFFFF &&
  operates .eqv 0x8877665544332211 0x0 0x778899AABBCCDDEE && operates .cmovlbs 0x1 0x7 0x7 &&
  operates .cmovlbs 0x2 0x7 0xDEAD && operates .cmovlbc 0x2 0x7 0x7 && operates .cmoveq 0x0 0x7 0x7 &&
  operates .cmoveq 0x1 0x7 0xDEAD && operates .cmovne 0x1 0x7 0x7 && operates .cmovlt 0x8000000000000000 0x7 0x7 &&
  operates .cmovlt 0x0 0x7 0xDEAD && operates .cmovge 0x0 0x7 0x7 && operates .cmovle 0x0 0x7 0x7 &&
  operates .cmovgt 0x0 0x7 0xDEAD && operates .cmovgt 0x1 0x7 0x7 &&
  operates (fun _ b rc => .amask b rc) 0 0x1 0x0 &&
  operates (fun _ b rc => .amask b rc) 0 0xFFFFFFFFFFFFFFFF 0xFFFFFFFFFFFFFFFE &&
  operates (fun _ _ rc => .implver rc) 0 0 0x1) = true := by decide +kernel

/-- Rows of 95_test_vectors B5. -/
theorem test_shifts_and_bytes : (
  operates .sll 0x1 63 0x8000000000000000 && operates .sll 0x8877665544332211 0x48 0x7766554433221100 &&
  operates .srl 0x8877665544332211 8 0x0088776655443322 && operates .srl 0x8000000000000000 63 0x1 &&
  operates .sra 0x8877665544332211 8 0xFF88776655443322 && operates .sra 0x4000000000000000 62 0x1 &&
  operates .zap 0x8877665544332211 0x0F 0x8877665500000000 && operates .zap 0x8877665544332211 0xFF 0x0 &&
  operates .zapnot 0x8877665544332211 0x0F 0x0000000044332211 &&
  operates .zapnot 0x8877665544332211 0x1AA 0x8800660044002200 &&
  operates .extbl 0x8877665544332211 3 0x0000000000000044 &&
  operates .extbl 0x8877665544332211 0xB 0x0000000000000044 &&
  operates .extwl 0x8877665544332211 3 0x0000000000005544 &&
  operates .extwl 0x8877665544332211 7 0x0000000000000088 &&
  operates .extll 0x8877665544332211 3 0x0000000077665544 &&
  operates .extll 0x8877665544332211 6 0x0000000000008877 &&
  operates .extql 0x8877665544332211 3 0x0000008877665544 &&
  operates .extql 0x8877665544332211 0 0x8877665544332211 &&
  operates .extwh 0x8877665544332211 7 0x0000000000001100 && operates .extwh 0x8877665544332211 1 0x0 &&
  operates .extlh 0x8877665544332211 6 0x0000000022110000 &&
  operates .extlh 0x8877665544332211 0 0x0000000044332211 &&
  operates .extqh 0x8877665544332211 3 0x3322110000000000 &&
  operates .extqh 0x8877665544332211 0 0x8877665544332211 &&
  operates .insbl 0x8877665544332211 3 0x0000000011000000 &&
  operates .inswl 0x8877665544332211 3 0x0000002211000000 &&
  operates .inswl 0x8877665544332211 7 0x1100000000000000 &&
  operates .insll 0x8877665544332211 3 0x0044332211000000 &&
  operates .insll 0x8877665544332211 6 0x2211000000000000 &&
  operates .insql 0x8877665544332211 3 0x5544332211000000 &&
  operates .insql 0x8877665544332211 0 0x8877665544332211 &&
  operates .inswh 0x8877665544332211 7 0x0000000000000022 && operates .inswh 0x8877665544332211 3 0x0 &&
  operates .inslh 0x8877665544332211 6 0x0000000000004433 && operates .inslh 0x8877665544332211 0 0x0 &&
  operates .insqh 0x8877665544332211 3 0x0000000000887766 && operates .insqh 0x8877665544332211 0 0x0 &&
  operates .mskbl 0x8877665544332211 3 0x8877665500332211 &&
  operates .mskwl 0x8877665544332211 3 0x8877660000332211 &&
  operates .mskwl 0x8877665544332211 7 0x0077665544332211 &&
  operates .mskll 0x8877665544332211 3 0x8800000000332211 &&
  operates .mskll 0x8877665544332211 6 0x0000665544332211 &&
  operates .mskql 0x8877665544332211 3 0x0000000000332211 && operates .mskql 0x8877665544332211 0 0x0 &&
  operates .mskwh 0x8877665544332211 7 0x8877665544332200 &&
  operates .mskwh 0x8877665544332211 3 0x8877665544332211 &&
  operates .msklh 0x8877665544332211 6 0x8877665544330000 &&
  operates .msklh 0x8877665544332211 0 0x8877665544332211 &&
  operates .mskqh 0x8877665544332211 3 0x8877665544000000 &&
  operates .mskqh 0x8877665544332211 0 0x8877665544332211 &&
  operates (fun _ b rc => .sextb b rc) 0 0x80 0xFFFFFFFFFFFFFF80 &&
  operates (fun _ b rc => .sextb b rc) 0 0x17F 0x000000000000007F &&
  operates (fun _ b rc => .sextw b rc) 0 0x8000 0xFFFFFFFFFFFF8000 &&
  operates (fun _ b rc => .sextw b rc) 0 0x12345 0x0000000000002345) = true := by decide +kernel
/-- Register 31 keeps nothing and still names its mask bit (95_test_vectors S3). -/
theorem test_register_31 :
    after (runWord nativeSetup 0x23FF1234 State.reset) (fun t => t.regs == State.reset.regs && t.pc == 4) = true ∧
    after (runWord nativeSetup 0x40210C1F (withRegs [(1, 0x8000000000000000)] State.reset)) (fun t =>
      t.ps.excSum == 0x40 && t.ps.excMask == 0x80000000 && t.readInt 31 == 0) = true := by decide +kernel

/-! ### Loads and stores (95_test_vectors B2) -/

/-- Kernel mode with the data superpage, `R4` at physical `0x1000`, bytes `F0` to `FF` there. -/
def b2 (flag : Bool) : State :=
  withRegs [(3, 0xDEAD), (4, 0xFFFFFC0000001000), (5, 0x1122334455667788)]
    ({ State.reset with palMode := false, dspe := true, lockFlag := flag }.loadImage 0x1000
      [0xF0, 0xF1, 0xF2, 0xF3, 0xF4, 0xF5, 0xF6, 0xF7, 0xF8, 0xF9, 0xFA, 0xFB, 0xFC, 0xFD, 0xFE, 0xFF])

/-- `R3` after a load. -/
def loads (w : BitVec 32) (r : Word) : Bool := after (runWord nativeSetup w (b2 false)) fun t => t.readInt 3 == r && t.pc == 4

/-- The pseudo-instructions of R161 by their expansions, on `R1` = 5 and `R3` = 0xDEAD: `NOP`, `CLR R3`, `MOV R1, R3`,
`MOV #7, R3`, `NEGQ R1, R3`, `NEGL R1, R3`, `NOT R1, R3`, `SEXTL R1, R3`, `BR`. -/
theorem test_pseudo_instructions :
    (let s := withRegs [(1, 5), (3, 0xDEAD)] State.reset
     let gives := fun (i : Instr) (r : Word) => after (exec i s) fun t => t.readInt 3 == r && t.pc == 4
     after (exec (.bis 31 (.reg 31) 31) s) (fun t => t == { s with pc := 4 }) = true ∧
     gives (.bis 31 (.reg 31) 3) 0 = true ∧ gives (.bis 31 (.reg 1) 3) 5 = true ∧ gives (.bis 31 (.lit 7) 3) 7 = true ∧
     gives (.subq 31 (.reg 1) 3) (-5) = true ∧ gives (.subl 31 (.reg 1) 3) (-5) = true ∧
     gives (.ornot 31 (.reg 1) 3) (~~~5) = true ∧ gives (.addl 31 (.reg 1) 3) 5 = true ∧
     after (exec (.br 31 2) s) (fun t => t.regs == s.regs && t.pc == 12) = true) := by decide +kernel

/-- `LDQ_U R31, 0(R4)` is no no-operation (R161): outside RAM it makes its access, and with the superpage off it
misses the table. -/
theorem test_unop_accesses_memory :
    (let s := { withRegs [(4, 0xFFFFFC0000100003)] (b2 false) with ioAnswers := [.data 5] }
     after (runWord nativeSetup 0x2FE40000 s) (fun t =>
       t.ioLog == [.read 0x100000 .quad] && t.ioAnswers == [] && t.regs == s.regs && t.pc == 4) = true ∧
     after (runWord nativeSetup 0x2FE40000 { s with dspe := false }) (fun t =>
       tookFault t 9 0xFFFFFC0000100000 0 0 0x200) = true) := by decide +kernel

/-- An alignment fault, with nothing written. -/
def misaligned (w : BitVec 32) (flag : Bool) (va : Word) : Bool :=
  after (runWord nativeSetup w (b2 flag)) fun t =>
    tookFault t 3 va 0 0 0x300 && t.regs == (b2 flag).regs && t.mem == (b2 flag).mem && t.lockFlag == flag

theorem test_integer_loads : (loads 0x28640001 0xF1 && loads 0x30640002 0xF3F2 &&
  loads 0xA0640004 0xFFFFFFFFF7F6F5F4 &&
    loads 0xA4640008 0xFFFEFDFCFBFAF9F8 && loads 0x2C640005 0xF7F6F5F4F3F2F1F0 &&
    loads 0x2C64000F 0xFFFEFDFCFBFAF9F8) = true := by decide +kernel

theorem test_alignment : (misaligned 0x30640001 false 0xFFFFFC0000001001 &&
  misaligned 0xA0640002 false 0xFFFFFC0000001002 &&
    misaligned 0xA4640004 false 0xFFFFFC0000001004 && misaligned 0x34A40003 false 0xFFFFFC0000001003 &&
    misaligned 0xB8A40002 true 0xFFFFFC0000001002) = true := by decide +kernel

theorem test_loads_locked :
    after (runWord nativeSetup 0xA8640004 (b2 false)) (fun t => t.readInt 3 == 0xFFFFFFFFF7F6F5F4 && t.lockFlag) = true ∧
    after (runWord nativeSetup 0xAC640008 (b2 false)) (fun t => t.readInt 3 == 0xFFFEFDFCFBFAF9F8 && t.lockFlag) = true := by
  decide +kernel

/-- The 16 bytes at `0x1000` after a store. -/
def stores (w : BitVec 32) (flag : Bool) (bs : List Byte) : Bool :=
  after (runWord nativeSetup w (b2 flag)) fun t => Memory.readBytes t.mem 0x1000 16 == bs && t.pc == 4

theorem test_integer_stores : (
    stores 0x38A40000 false
      [0x88, 0xF1, 0xF2, 0xF3, 0xF4, 0xF5, 0xF6, 0xF7, 0xF8, 0xF9, 0xFA, 0xFB, 0xFC, 0xFD, 0xFE, 0xFF] &&
    stores 0x34A40002 false
      [0xF0, 0xF1, 0x88, 0x77, 0xF4, 0xF5, 0xF6, 0xF7, 0xF8, 0xF9, 0xFA, 0xFB, 0xFC, 0xFD, 0xFE, 0xFF] &&
    stores 0xB0A40004 false
      [0xF0, 0xF1, 0xF2, 0xF3, 0x88, 0x77, 0x66, 0x55, 0xF8, 0xF9, 0xFA, 0xFB, 0xFC, 0xFD, 0xFE, 0xFF] &&
    stores 0xB4A40008 false
      [0xF0, 0xF1, 0xF2, 0xF3, 0xF4, 0xF5, 0xF6, 0xF7, 0x88, 0x77, 0x66, 0x55, 0x44, 0x33, 0x22, 0x11] &&
    stores 0x3CA4000D false
      [0xF0, 0xF1, 0xF2, 0xF3, 0xF4, 0xF5, 0xF6, 0xF7, 0x88, 0x77, 0x66, 0x55, 0x44, 0x33, 0x22, 0x11]) = true := by
  decide +kernel

theorem test_store_conditional :
    after (runWord nativeSetup 0xBCA40008 (b2 false)) (fun t => t.readInt 5 == 0 && t.mem == (b2 false).mem &&
      !t.lockFlag) = true ∧
    after (runWord nativeSetup 0xBCA40008 (b2 true)) (fun t =>
      t.readInt 5 == 1 && !t.lockFlag &&
        Memory.readBytes t.mem 0x1008 8 == [0x88, 0x77, 0x66, 0x55, 0x44, 0x33, 0x22, 0x11]) =
      true ∧
    after (runWord nativeSetup 0xB8A40002 (b2 false)) (fun t => t.readInt 5 == 0 && t.mem == (b2 false).mem) = true ∧
    after (runWord nativeSetup 0xB8A40004 (b2 true)) (fun t => t.readInt 5 == 1 && Memory.readBytes t.mem 0x1004 4 ==
      [0x88, 0x77, 0x66, 0x55]) = true := by decide +kernel

theorem test_load_address :
    after (runWord nativeSetup 0x2022FFF8 (withRegs [(2, 0x1000)] State.reset)) (fun t => t.readInt 1 == 0xFF8) = true ∧
    after (runWord nativeSetup 0x20427FFF (withRegs [(2, 0xFFFFFFFFFFFFFFFF)] State.reset)) (fun t => t.readInt 2 == 0x7FFE) = true ∧
    after (runWord nativeSetup 0x243F0001 State.reset) (fun t => t.readInt 1 == 0x10000) = true ∧
    after (runWord nativeSetup 0x243F8000 State.reset) (fun t => t.readInt 1 == 0xFFFFFFFF80000000) = true := by decide +kernel

/-! ### Control transfer (95_test_vectors B6) -/

/-- `PC` after a branch on `R1` (and `F1`), and whether its own address was pushed. -/
def branches (w : BitVec 32) (at_ v target : Word) (pushed : Bool) : Bool :=
  after (runWord nativeSetup w ((withRegs [(1, v)] { State.reset with pc := at_, fpen := true }).writeFp 1 v)) fun t =>
    t.pc == target && t.pcqP == (if pushed then 63 else 0) && t.pcqEntry 0 == (if pushed then at_ else 0)

theorem test_integer_branches : (branches 0xE4200003 0x1000 0 0x1010 true &&
  branches 0xE4200003 0x1000 1 0x1004 false &&
    branches 0xF43FFFFE 0x1008 5 0x1004 true && branches 0xE8200003 0x1000 0x8000000000000000 0x1010 true &&
    branches 0xE8200003 0x1000 0 0x1004 false && branches 0xEC200003 0x1000 0 0x1010 true &&
    branches 0xF8200003 0x1000 0 0x1010 true && branches 0xF8200003 0x1000 0xFFFFFFFFFFFFFFFF 0x1004 false &&
    branches 0xFC200003 0x1000 0 0x1004 false && branches 0xFC200003 0x1000 1 0x1010 true &&
    branches 0xE0200003 0x1000 2 0x1010 true && branches 0xF0200003 0x1000 2 0x1004 false &&
    branches 0xF0200003 0x1000 0x8000000000000001 0x1010 true) = true := by decide +kernel

theorem test_floating_branches : (branches 0xC4200003 0x1000 0x8000000000000000 0x1010 true &&
    branches 0xC8200003 0x1000 0x8000000000000000 0x1004 false &&
      branches 0xC8200003 0x1000 0xBFF0000000000000 0x1010 true &&
    branches 0xCC200003 0x1000 0 0x1010 true && branches 0xD4200003 0x1000 0x8000000000000000 0x1004 false &&
    branches 0xD8200003 0x1000 0x8000000000000000 0x1010 true &&
      branches 0xDC200003 0x1000 0x3FF0000000000000 0x1010 true) =
    true := by decide +kernel

theorem test_unconditional_branches : (branches 0xC3E00003 0x1000 0 0x1010 true &&
  branches 0xC3FFFFFF 0x1000 0 0x1000 true &&
    branches 0xC3EFFFFF 0x1000 0 0x401000 true && branches 0xC3F00000 0x401000 0 0x1004 true &&
    branches 0xC3E00000 0xFFFFFFFFFFFFFFFC 0 0 true) = true ∧
    after (runWord nativeSetup 0xC03FFFFE { State.reset with pc := 0x1008 }) (fun t => t.readInt 1 == 0x100C &&
      t.pc == 0x1004) = true ∧
    after (runWord nativeSetup 0xD3400010 { State.reset with pc := 0x2000 }) (fun t => t.readInt 26 == 0x2004 && t.pc == 0x2044) =
      true := by decide +kernel

/-- A jump from `0x1000` with `R26` and `R27` as given: `R26` and `PC` afterwards. -/
def jumps (w : BitVec 32) (r26 r27 link target : Word) : Bool :=
  after (runWord nativeSetup w (withRegs [(26, r26), (27, r27)] { State.reset with pc := 0x1000 })) fun t =>
    t.readInt 26 == link && t.pc == target && t.pcqEntry 0 == 0x1000

theorem test_jumps : (jumps 0x6B5B0000 0 0x3003 0x1004 0x3000 && jumps 0x6B5A4000 0x3000 0 0x1004 0x3000 &&
    jumps 0x6BFA8000 0x2004 0 0x2004 0x2004 && jumps 0x6B5BC000 0 0x3000 0x1004 0x3000 &&
    jumps 0x6BFB3FFF 0 0x3000 0 0x3000) = true := by decide +kernel

/-! ### Miscellaneous (95_test_vectors B7) -/

/-- The state after a word differs from the one before in `PC` alone. -/
def onlyAdvances (w : BitVec 32) : Bool := after (runWord nativeSetup w (b2 true)) fun t => t == { b2 true with pc := 4 }

theorem test_barriers_and_hints : (onlyAdvances 0x63FF0000 && onlyAdvances 0x63FF0400 && onlyAdvances 0x63FF4000 &&
    onlyAdvances 0x63FF4400 && onlyAdvances 0x63E28000 && onlyAdvances 0x63E2A000 && onlyAdvances 0x63E2E800 &&
    onlyAdvances 0x63E2F800) = true := by decide +kernel

theorem test_interrupt_flag :
    after (runWord nativeSetup 0x603FF000 State.reset) (fun t => t.readInt 1 == 0 && t.intrFlag) = true ∧
    after (runWord nativeSetup 0x603FF000 { State.reset with intrFlag := true }) (fun t => t.readInt 1 == 1 &&
      t.intrFlag) = true ∧
    after (runWord nativeSetup 0x603FE000 { State.reset with intrFlag := true }) (fun t => t.readInt 1 == 1 &&
      !t.intrFlag) = true ∧
    after (runWord nativeSetup 0x603FE000 State.reset) (fun t => t.readInt 1 == 0 && !t.intrFlag) = true := by decide +kernel

/-- The counter is a draw: it advances the draw count and writes no register but `R1`. -/
theorem test_counter : after (runWord nativeSetup 0x603FC000 State.reset) (fun t => t.draws == 1 && t.readInt 2 == 0 &&
  t.pc == 4) =
    true := by decide +kernel

/-! ### The floating-point interface (95_test_vectors B8) -/

/-- Floating point enabled, `8(R2)` at physical `0x1000` through the data superpage, this quad there. -/
def b8 (quad : Nat) : State :=
  withRegs [(2, 0xFFFFFC0000000FF8)]
    ({ State.reset with palMode := false, dspe := true, fpen := true }.loadImage 0x1000 (bytesOfNat 8 quad))

def loadsFp (w : BitVec 32) (m : Nat) (r : Word) : Bool := after (runWord nativeSetup w (b8 m)) fun t => t.readFp 1 == r &&
  t.pc == 4

def storesFp (w : BitVec 32) (r : Word) (n m : Nat) : Bool :=
  after (runWord nativeSetup w ((b8 0).writeFp 1 r)) fun t => natOfBytes (Memory.readBytes t.mem 0x1000 n) == m

theorem test_floating_loads : (loadsFp 0x88220008 0x40490FDB 0x400921FB60000000 &&
  loadsFp 0x88220008 0x7FC00001 0x7FF8000020000000 &&
    loadsFp 0x88220008 0x00000001 0x0000000020000000 && loadsFp 0x80220008 0x12344120 0x4024024680000000 &&
    loadsFp 0x80220008 0xFFFF7FFF 0x47FFFFFFE0000000 && loadsFp 0x84220008 0x1122334455667788 0x7788556633441122 &&
    loadsFp 0x8C220008 0x400921FB54442D18 0x400921FB54442D18) = true := by decide +kernel

theorem test_floating_stores : (storesFp 0x98220008 0x400921FB54442D18 8 0x40490FDA &&
  storesFp 0x98220008 0x47F0000000000000 8 0x7F800000 &&
    storesFp 0x90220008 0x4024024680000000 8 0x12344120 &&
      storesFp 0x94220008 0x7788556633441122 8 0x1122334455667788 &&
    storesFp 0x9C220008 0x400921FB54442D18 8 0x400921FB54442D18) = true := by decide +kernel

/-- The enable comes before alignment. -/
theorem test_floating_enable :
    after (runWord nativeSetup 0x88220002 State.reset) (fun t => tookFault t 4 0 0 1 0x580) = true ∧
    after (runWord nativeSetup 0x88220002 { State.reset with fpen := true }) (fun t => tookFault t 3 2 0 1 0x300) = true ∧
    after (runWord nativeSetup 0x58221403 State.reset) (fun t => tookFault t 4 0 0 1 0x580) = true ∧
    after (runWord nativeSetup 0xDC200003 State.reset) (fun t => tookFault t 4 0 0 1 0x580) = true := by decide +kernel

/-- Two trap bits of one answer are delivered in one entry, after the write (95_test_vectors S9). -/
theorem test_floating_traps :
    after (finish nativeSetup (applyFp 3 (.done (some 0x7FF0000000000000) 0 0x28) { State.reset with palMode := false, pc := 0x20000 }))
      (fun t => t.readFp 3 == 0x7FF0000000000000 && t.ps.excSum == 0x28 && t.ps.excMask == 0x800000000 && t.trapSumm == 0 &&
        t.excAddr == 0x20004 && t.pc == 0x500 && t.palMode) = true := by decide +kernel

/-! ### Firmware opcodes (95_test_vectors B9, S7, S8) -/

/-- Outside firmware at `0x20000`, in this mode. -/
def outside (m : Mode) : State := { State.reset with palMode := false, cm := m, pc := 0x20000, ipl := 4 }

theorem test_call_pal :
    after (runWord nativeSetup 0x00000083 { outside 3 with palBase := 0x10000 }) (fun t =>
      t.excAddr == 0x20004 && t.palMode && t.pc == 0x140C0 && t.cm == 3) = true ∧
    after (runWord nativeSetup 0x00000002 { outside 0 with palBase := 0x10000 }) (fun t => t.excAddr == 0x20004 &&
      t.pc == 0x12080) =
      true ∧
    after (runWord nativeSetup 0x0000007F (outside 0)) (fun t => t.pc == 0x3FC0) = true ∧
    after (runWord nativeSetup 0x000000FF (outside 3)) (fun t => t.pc == 0x5FC0) = true ∧
    after (runWord nativeSetup 0x00000080 { State.reset with pc := 0x4000 }) (fun t => t.excAddr == 0x4005 &&
      t.pc == 0x4000) = true ∧
    after (runWord nativeSetup 0x00000183 State.reset) (fun t => tookFault t 1 0 0 1 0x480) = true := by decide +kernel

/-- Every privileged opcode outside kernel and firmware mode. -/
theorem test_privileged_denied :
    ([0x77E10005, 0x77FF000F, 0x643F0000, 0x6C229000, 0x7C229000, 0x7BFF0000, 0x00000002, 0x77E17777].all fun w =>
      after (runWord nativeSetup w (outside 3)) fun t => tookFault t 1 0 3 0x20000 0x480 && t.ipl == 4 && !t.ps.haltReq) = true := by
  decide +kernel

theorem test_internal_register_writes :
    (let wr := fun (w : BitVec 32) (v : Word) (p : State → Bool) => after (runWord nativeSetup w (withRegs [(1, v)] State.reset)) p
     wr 0x77E10002 0xB (fun t => t.sde && t.fpen && !t.ispe && t.dspe) &&
       wr 0x77E10001 0x17FFF (fun t => t.palBase == 0x10000) &&
     wr 0x77E10000 0x20003 (fun t => t.excAddr == 0x20001) && wr 0x77E10003 0xFF (fun t => t.cm == 3) &&
     wr 0x77E10005 0x34 (fun t => t.ipl == 20) && wr 0x77E10020 0x41FFF (fun t => t.dtbTag == 0x20) &&
     wr 0x77E10041 0x1234 (fun t => t.ps.palTemp[1] == 0x1234) && wr 0x77E1000F 0 (fun t => t.ps.haltReq && t.pc == 4) &&
     wr 0x77E10007 0 (fun t => tookFault t 2 0 0 1 0x600)) = true ∧
    after (runWord nativeSetup 0x77E10008 { State.reset with ps := { NativeState.reset with excSum := 0x40, excMask := 8 } }) (fun t => t.ps.excSum == 0 &&
      t.ps.excMask == 0) =
      true := by decide +kernel

theorem test_internal_register_reads :
    after (runWord nativeSetup 0x643F000A { State.reset with ps := { NativeState.reset with faultKind := 0x16, faultMode := 3 } }) (fun t => t.readInt 1 == 0x316) = true ∧
    after (runWord nativeSetup 0x643F0006 { State.reset with irq := 0x80010 }) (fun t => t.readInt 1 == 0x100020) = true ∧
    after (runWord nativeSetup 0x643F0002 { State.reset with sde := true, fpen := true, dspe := true }) (fun t => t.readInt 1 == 0xB) =
      true ∧
    ([0x643F000F, 0x643F000D, 0x643F0058].all fun w => after (runWord nativeSetup w State.reset) fun t => tookFault t 2 0 0 1 0x600) =
      true := by decide +kernel

/-- Firmware mode, `R1` and `R2` as given, the quad `0x0123456789ABCDEF` at physical `0x2000`. -/
def b9 (r1 r2 : Word) : State :=
  withRegs [(1, r1), (2, r2)] (State.reset.loadImage 0x2000 (bytesOfNat 8 0x0123456789ABCDEF))

theorem test_hardware_load : (
    after (runWord nativeSetup 0x6C229000 (b9 0 0x2000)) (fun t => t.readInt 1 == 0x0123456789ABCDEF && !t.lockFlag) &&
    after (runWord nativeSetup 0x6C228004 (b9 0 0x2000)) (fun t => t.readInt 1 == 0x01234567) &&
    after (runWord nativeSetup 0x6C228000 (b9 0 0x2000)) (fun t => t.readInt 1 == 0xFFFFFFFF89ABCDEF) &&
    after (runWord nativeSetup 0x6C2293F8 (b9 0 0x2008)) (fun t => t.readInt 1 == 0x0123456789ABCDEF) &&
    after (runWord nativeSetup 0x6C229004 (b9 0 0x2000)) (fun t => tookFault t 3 0x2004 0 1 0x300) &&
    after (runWord nativeSetup 0x6C22B000 (b9 0 0x2000)) (fun t => tookFault t 1 0 0 1 0x480) &&
    after (runWord nativeSetup 0x6C229400 (b9 0 0x2000)) (fun t => t.readInt 1 == 0x0123456789ABCDEF && t.lockFlag)) = true := by
  decide +kernel

theorem test_hardware_store : (
    after (runWord nativeSetup 0x7C229000 (b9 0x1122334455667788 0x2000)) (fun t =>
      Memory.readBytes t.mem 0x2000 8 == [0x88, 0x77, 0x66, 0x55, 0x44, 0x33, 0x22, 0x11]) &&
    after (runWord nativeSetup 0x7C228000 (b9 0x1122334455667788 0x2000)) (fun t =>
      Memory.readBytes t.mem 0x2000 8 == [0x88, 0x77, 0x66, 0x55, 0x67, 0x45, 0x23, 0x01]) &&
    after (runWord nativeSetup 0x7C229400 { b9 5 0x2000 with lockFlag := true }) (fun t =>
      Memory.readBytes t.mem 0x2000 8 == [5, 0, 0, 0, 0, 0, 0, 0] && t.readInt 1 == 1 && !t.lockFlag) &&
    after (runWord nativeSetup 0x7C229400 (b9 5 0x2000)) (fun t => t.mem == (b9 5 0x2000).mem && t.readInt 1 == 0)) = true := by
  decide +kernel

theorem test_return_from_firmware :
    after (runWord nativeSetup 0x7BFF0000 { State.reset with excAddr := 0x20014, lockFlag := true, pc := 0x40C4 }) (fun t =>
      t.pc == 0x20014 && !t.palMode && !t.lockFlag && t.pcqEntry 0 == 0x40C4) = true ∧
    after (runWord nativeSetup 0x7BFF0000 { State.reset with excAddr := 0x000D }) (fun t => t.pc == 0xC && t.palMode) = true ∧
    after (runWord nativeSetup 0x7BFF0001 State.reset) (fun t => tookFault t 1 0 0 1 0x480) = true := by decide +kernel

/-- The shadow scenario, its first and its last step. -/
theorem test_shadow_registers :
    after (runWord nativeSetup 0x00000080 (withRegs [(8, 0x1111)]
        { State.reset with palMode := false, sde := true, pc := 0x20010, shadow := State.reset.shadow.set 0 0xAAAA })) (fun t =>
      t.readInt 8 == 0xAAAA && t.shadow[0] == 0x1111 && t.shdwActive && t.excAddr == 0x20014 &&
        t.pc == 0x4000) = true ∧
    after (runWord nativeSetup 0x7BFF8000 (withRegs [(8, 0x2222)] { State.reset with
        sde := true, shdwActive := true, excAddr := 0x20014, pc := 0x4004, shadow := State.reset.shadow.set 0 0x1111 })) (fun t =>
      t.readInt 8 == 0x1111 && t.shadow[0] == 0x2222 && !t.shdwActive && !t.palMode && t.pc == 0x20014) = true := by
  decide +kernel

/-! ### Translation (95_test_vectors B1) -/

/-- A table load that is known to succeed. -/
def loadEntry (side : Side) (vpn : Vpn) (p : Word) (s : State) : State :=
  match tlbLoad nativeSetup side vpn p s with
  | .ok _ s' => s'
  | .raised _ _ _ s' => s'
  | .stopped _ => s

/-- The table state of T-TR. -/
def ttr : State :=
  loadEntry .instruction 0x11 0x0000000800000909 <| loadEntry .instruction 0x10 0x0000000800000901 <|
  loadEntry .data 0x23 0x0000000C00001102 <| loadEntry .data 0x45 0x0000123800001121 <|
  loadEntry .data 0x22 0x0000000B00000907 <| loadEntry .data 0x21 0x0000000A00000100 <|
  loadEntry .data 0x20 0x0000000900009901 { State.reset with palMode := false }

/-- The translation gives this physical address. -/
def gives (s : State) (va : Word) (acc : Access) (m : Mode) (pa : PhysAddr) : Bool :=
  match Machine.translate nativeSetup va acc m s with
  | .ok p _ => p == pa
  | .raised _ _ _ _ => false
  | .stopped _ => false

/-- The translation raises the fault with this code, at this address and mode. -/
def faults (s : State) (va : Word) (acc : Access) (m : Mode) (code : BitVec 5) : Bool :=
  match Machine.translate nativeSetup va acc m s with
  | .ok _ _ => false
  | .raised k a n _ => k.code == code && a == va && n == m
  | .stopped _ => false

theorem test_translation : (gives ttr 0x40010 .read 3 0x12010 && gives ttr 0x40010 .write 3 0x12010 &&
    faults ttr 0x40010 .read 1 0x15 && faults ttr 0x42000 .read 0 0x19 && faults ttr 0x42000 .read 3 0x15 &&
    faults ttr 0x42000 .write 0 0x16 && faults ttr 0x44008 .read 3 0x11 && faults ttr 0x44008 .write 3 0x16 &&
    faults ttr 0x46000 .write 0 0x1A && gives ttr 0x8A123 .read 0 0x247A123 && gives ttr 0x8FFFF .write 0 0x247FFFF &&
    faults ttr 0x90000 .read 0 0x09 && gives ttr 0x20000 .execute 3 0x10000 && faults ttr 0x20000 .execute 1 0x14 &&
    faults ttr 0x22000 .execute 3 0x10 && faults ttr 0x40010 .execute 3 0x08) = true := by decide +kernel

theorem test_improper_addresses : (faults ttr 0x40000000000 .read 0 0x1D && faults ttr 0x3FFFFFFE000 .read 0 0x09 &&
    faults ttr 0xFFFFF80000000000 .read 0 0x1D && faults ttr 0x8000000000000000 .write 0 0x1E &&
    faults ttr 0xFFFFFBFFFFFFFFF8 .execute 0 0x1C &&
      faults ttr 0xFFFFFC0000001000 .read 0 0x09) = true := by decide +kernel

theorem test_superpage : (let s := { ttr with dspe := true }
    gives s 0xFFFFFC0000001000 .read 0 0x1000 && faults s 0xFFFFFC0000001000 .write 3 0x16 &&
    gives s 0xFFFFFDFFFFFFFFFF .read 0 0x1FFFFFFFFFF && faults s 0xFFFFFE0000000000 .read 0 0x09 &&
    faults s 0xFFFFFC0000001000 .execute 0 0x08 && faults s 0x20000000000 .read 0 0x09) = true := by decide +kernel

/-- T-TLB-3 up to step 7: two entries of ASN 3, one of ASN 5, one global. -/
def tlb3 : State :=
  setAsn .data 3 <| loadEntry .data 0x40 0x0000000400000111 <| loadEntry .data 0x30 0x0000000300000101 <|
  setAsn .data 5 <| loadEntry .data 0x20 0x0000000200000101 <| loadEntry .data 0x10 0x0000000100000101 <|
  setAsn .data 3 State.reset

/-- Whether a page is found. -/
def finds (s : State) (vpn : Vpn) : Bool := (s.lookup .data vpn).1.isSome

theorem test_address_spaces :
    (finds tlb3 0x10 && finds tlb3 0x20 && finds tlb3 0x40 && !finds tlb3 0x30) = true ∧
    (let s := invalidateAll .data false tlb3
     !finds s 0x10 && !finds s 0x20 && !finds s 0x30 && finds s 0x40 && finds (setAsn .data 5 s) 0x40 &&
       !finds (setAsn .data 5 s) 0x30) = true ∧
    (let s := invalidateSingle nativeSetup .data 0x20000 tlb3
     !finds s 0x10 && finds s 0x20) = true := by decide +kernel

/-! ### Exceptions and interrupts (95_test_vectors B10, S5) -/

/-- User mode at `0x20000`, firmware at `0x10000`. -/
def user : State := { State.reset with palMode := false, cm := 3, pc := 0x20000, palBase := 0x10000, ipl := 4 }

theorem test_exceptions :
    after (runWord nativeSetup 0x04000000 user) (fun t => tookFault t 1 0 3 0x20000 0x10480 && t.cm == 3 && t.ipl == 4) = true ∧
    after (step user) (fun t => tookFault t 8 0x20000 3 0x20000 0x10180) = true ∧
    after (runWord nativeSetup 0xA43F0001 user) (fun t => tookFault t 3 1 3 0x20000 0x10300) = true ∧
    after (runWord nativeSetup 0xB4220000 (withRegs [(2, 0x40000)] user)) (fun t => tookFault t 0x0A 0x40000 3 0x20000 0x10200) = true ∧
    after (runWord nativeSetup 0xA4220000 (withRegs [(2, 0x40000000000)] user)) (fun t =>
      tookFault t 0x1D 0x40000000000 3 0x20000 0x10380) = true ∧
    after (runWord nativeSetup 0x64217777 { user with cm := 0 }) (fun t => tookFault t 2 0 0 0x20000 0x10600) = true := by
  decide +kernel

/-- A faulting load leaves its destination. -/
theorem test_faulting_load :
    after (runWord nativeSetup 0xA4612010 (withRegs [(1, 0x40000), (3, 0xDEAD)] { user with pc := 0x20008, palBase := 0 })) (fun t =>
      tookFault t 9 0x42010 3 0x20008 0x200 && t.readInt 3 == 0xDEAD) = true := by decide +kernel

/-- Levels 5 and 20 asserted: taken above `ipl`, masked at it, never in firmware mode. -/
theorem test_interrupts :
    after (step { user with irq := 0x80010 }) (fun t =>
      t.ps.intId == 20 && t.excAddr == 0x20000 && t.pc == 0x10100 && t.palMode && t.cm == 3) = true ∧
    pendingLevel nativeSetup { user with irq := 0x80010, ipl := 20 } = 0 ∧
      pendingLevel nativeSetup { user with irq := 0x80010, palMode := true } = 0 ∧
    pendingLevel nativeSetup { user with irq := 0x80010, ipl := 19 } = 20 := by decide +kernel

/-- A halt request is reported by the step that raised it and cleared. -/
theorem test_halt : after (step (State.reset.withFetchWord 32 0x77FF000F)) (fun t =>
    t.report == .haltRequested && !t.ps.haltReq && t.pc == 4) = true := by decide +kernel

/-- A fetch outside RAM that the I/O collaborator misses stops the run. -/
theorem test_nonexistent_memory : stops (step { State.reset with pc := 0x100000, ioAnswers := [.miss] }) .stopNxm = true := by
  decide +kernel

/-! ### Witnesses: states and operands that meet the hypotheses of each statement -/

/-- The result is a value and a state with this property. -/
def okWith {α : Type} (r : Result NativeState α) (p : α → State → Bool) : Bool :=
  match r with
  | .ok a s => p a s
  | .raised _ _ _ _ => false
  | .stopped _ => false

theorem okWith_spec {α : Type} {r : Result NativeState α} {p : α → State → Bool} (h : okWith r p = true) :
    ∃ a s, r = .ok a s ∧ p a s = true := by
  cases r with
  | ok a s => exact ⟨a, s, rfl, h⟩
  | raised k va m s => cases h
  | stopped f => cases h

/-- The result is a raised fault. -/
def isRaised {α : Type} (r : Result NativeState α) : Bool :=
  match r with
  | .ok _ _ => false
  | .raised _ _ _ _ => true
  | .stopped _ => false

theorem isRaised_spec {α : Type} {r : Result NativeState α} (h : isRaised r = true) : ∃ k va m s, r = .raised k va m s := by
  cases r with
  | ok a s => cases h
  | raised k va m s => exact ⟨k, va, m, s, rfl⟩
  | stopped f => cases h

/-- The result is this stop. -/
def isStop {α : Type} (r : Result NativeState α) (f : Fault) : Bool :=
  match r with
  | .ok _ _ => false
  | .raised _ _ _ _ => false
  | .stopped g => g == f

theorem isStop_spec {α : Type} {r : Result NativeState α} {f : Fault} (h : isStop r f = true) : r = .stopped f := by
  cases r with
  | ok a s => cases h
  | raised k va m s => cases h
  | stopped g => simpa [isStop] using h

theorem stops_spec {o : Host.Outcome State Fault Refusal} {f : Fault} (h : stops o f = true) : o = .fault f := by
  cases o with
  | next t => cases h
  | fault g => simpa [stops] using h
  | refused r => cases h

theorem after_spec {π : Type} {o : Host.Outcome (State π) Fault Refusal} {p : State π → Bool} (h : after o p = true) :
    ∃ t, o = .next t ∧ p t = true := by
  cases o with
  | next t => exact ⟨t, rfl, h⟩
  | fault f => cases h
  | refused r => cases h

/-- Every member of a list has a decidable property. -/
def Each {α : Type} (l : List α) (p : α → Bool) : Prop := l.all p = true

theorem witness_EncodeRecoversWord : decode 0x7BFF8000 = .ok (.hwRei true 0) := rfl

/-- One word, or two at the ends of the range, for each kind of encoding the statement lists; the collaborator's own
answer has no witness, because it is a free value. -/
theorem witness_ReservedEncodings :
    Each [0x04000000#32, 0x1FFFFFFF] (fun w => decide (1 ≤ (w.extractLsb' 26 6).toNat ∧
      (w.extractLsb' 26 6).toNat ≤ 7)) ∧
    Each [(0x40000020#32, 0x10, 0x01), (0x40000FE0, 0x10, 0x7F), (0x44000020, 0x11, 0x01), (0x44000FE0, 0x11, 0x7F),
        (0x48000000, 0x12, 0x00), (0x48000FE0, 0x12, 0x7F), (0x4C000020, 0x13, 0x01), (0x4C000FE0, 0x13, 0x7F),
        (0x70000040, 0x1C, 0x02), (0x70000FE0, 0x1C, 0x7F)]
      (fun p => decide ((p.1.extractLsb' 26 6).toNat = p.2.1 ∧ (p.1.extractLsb' 5 7).toNat = p.2.2)) ∧
    Each [(0x60000001#32, 0x0001), (0x6000FFFF, 0xFFFF)]
      (fun p => decide ((p.1.extractLsb' 26 6).toNat = 0x18 ∧ (p.1.extractLsb' 0 16).toNat = p.2)) ∧
    Each [0x00000100#32, 0x02000000] (fun w => decide ((w.extractLsb' 26 6).toNat = 0 ∧ w.extractLsb' 8 18 ≠ 0)) ∧
    Each [1#2, 3] (fun m => decide ((outside m).palMode = false ∧ (outside m).cm ≠ 0)) ∧
    Each [0x00000000#32, 0x0000007F] (fun w => decide ((w.extractLsb' 26 6).toNat = 0 ∧ w.getLsbD 7 = false)) ∧
    Each [(0x64000000#32, 0x19), (0x6C000000, 0x1B), (0x74000000, 0x1D), (0x78000000, 0x1E), (0x7C000000, 0x1F)]
      (fun p => decide ((p.1.extractLsb' 26 6).toNat = p.2)) ∧
    Each [(0x6C002000#32, 0x1B), (0x6C000800, 0x1B), (0x7C002000, 0x1F), (0x7C000800, 0x1F)]
      (fun p => decide ((p.1.extractLsb' 26 6).toNat = p.2 ∧ (p.1.getLsbD 13 = true ∨ p.1.getLsbD 11 = true))) ∧
    Each [0x78000001#32, 0x78004000] (fun w => decide ((w.extractLsb' 26 6).toNat = 0x1E ∧
      w.extractLsb' 0 15 ≠ 0)) := by
  unfold Each; decide +kernel

/-- A fetched instruction that completes, one that stops, a word that is none, a fetch fault and a fetch that stops. -/
theorem witness_StepRunsDecodedInstruction :
    (let s := State.reset.withFetchWord 32 0x47FFF401
     pendingLevel nativeSetup s = 0 ∧ (∃ w s', fetchWord nativeSetup s = .ok w s' ∧ decode w = .ok (.bis 31 (.lit 255) 1)) ∧
       ∃ t, exec (.bis 31 (.lit 255) 1) s = .next t) ∧
    (let s := withRegs [(2, 0x100000)] { State.reset with ioAnswers := [.miss] }
     exec (.hwLd 1 2 hwQual 0) s = .fault .stopNxm) ∧
    (let s := State.reset.withFetchWord 32 0x63FF0001
     ∃ w s', fetchWord nativeSetup s = .ok w s' ∧ (decode w).toOption = none) ∧
    (pendingLevel nativeSetup user = 0 ∧ ∃ k va m s', fetchWord nativeSetup user = .raised k va m s') ∧
    fetchWord nativeSetup { State.reset with pc := 0x100000, ioAnswers := [.miss] } = .stopped .stopNxm := by
  refine ⟨⟨by decide +kernel, ?_, ?_⟩, ?_, ?_, ⟨by decide +kernel, isRaised_spec (by decide +kernel)⟩,
    isStop_spec (by decide +kernel)⟩
  · obtain ⟨w, s', h, e⟩ := okWith_spec (r := fetchWord nativeSetup (State.reset.withFetchWord 32 0x47FFF401))
      (p := fun w _ => w == 0x47FFF401) (by decide +kernel)
    exact ⟨w, s', h, by rw [eq_of_beq e]; rfl⟩
  · obtain ⟨t, h, -⟩ := after_spec (o := exec (.bis 31 (.lit 255) 1) (State.reset.withFetchWord 32 0x47FFF401))
      (p := fun _ => true) (by decide +kernel)
    exact ⟨t, h⟩
  · exact stops_spec (by decide +kernel)
  · obtain ⟨w, s', h, e⟩ := okWith_spec (r := fetchWord nativeSetup (State.reset.withFetchWord 32 0x63FF0001))
      (p := fun w _ => w == 0x63FF0001) (by decide +kernel)
    exact ⟨w, s', h, by rw [eq_of_beq e]; rfl⟩

/-- The last long of RAM in firmware mode; a mapped and an unmapped page outside it. -/
theorem witness_FetchTranslatesOutsideFirmware :
    ({ State.reset with pc := 0xFFFFC } : State).palMode = true ∧ 0xFFFFC % 2 ^ 44 < nativeSetup.memSize ∧
    ttr.palMode = false ∧
    (∃ pa s', Machine.translate nativeSetup 0x20000 .execute 0 ttr = .ok pa s' ∧ decide (pa.toNat < nativeSetup.memSize) = true) ∧
    (∃ k va m s', Machine.translate nativeSetup 0x22000 .execute 0 ttr = .raised k va m s') := by
  exact ⟨rfl, by decide, rfl, okWith_spec (by decide +kernel), isRaised_spec (by decide +kernel)⟩

/-- The lowest and the highest level taken. -/
theorem witness_InterruptPollAndEntry :
    pendingLevel nativeSetup { user with ipl := 0, irq := 1 } = 1 ∧ pendingLevel nativeSetup { user with ipl := 30, irq := 0x40000000 } = 31 ∧
    ({ user with palMode := true } : State).palMode = true ∧ user.palMode = false := by decide +kernel

/-- An entry with the exchange and two without. -/
theorem witness_EntryIntoFirmware :
    user.palBase.extractLsb' 0 15 = 0 ∧ (0x0480#15).extractLsb' 0 2 = 0 ∧
    ({ user with sde := true } : State).sde = true ∧ ({ user with sde := true } : State).shdwActive = false ∧
    ¬ (user.sde = true ∧ user.shdwActive = false) ∧
    ¬ (({ user with sde := true, shdwActive := true } : State).sde = true ∧
      ({ user with sde := true, shdwActive := true } : State).shdwActive = false) := by decide +kernel

/-- An interrupted user state, and the firmware state the entry leaves. -/
theorem witness_EntryThenReturnRestores :
    (let s := { user with sde := true }
     let t := s.enterFirmware 0x0200 0x20000
     s.palMode = false ∧ s.sde = true ∧ s.shdwActive = false ∧ t.palMode = true ∧ t.trapSumm = 0) := by decide +kernel

/-- `HW_REI` denied, with its must-be-zero bits set, and legal in firmware and in kernel mode. -/
theorem witness_ReturnFromFirmware :
    (0x7BFF8000#32).extractLsb' 26 6 = 0x1E ∧ ¬ (user.palMode = true ∨ user.cm = 0) ∧ (1#15) ≠ 0 ∧
    (State.reset.palMode = true ∧ State.reset.trapSumm = 0) ∧ ((outside 0).cm = 0 ∧ (outside 0).trapSumm = 0) := by
  decide +kernel

/-- A pending cause; an instruction and a step that complete with none. -/
theorem witness_TrapsDeliveredAtEnd :
    ({ State.reset with trapSumm := 0x40 } : State).trapSumm ≠ 0 ∧
    State.reset.trapSumm = 0 ∧ State.reset.trapMask = 0 ∧ (∃ t, exec .mb State.reset = .next t) ∧
    ∃ t, step State.reset = .next t := by
  refine ⟨by decide +kernel, rfl, rfl, ?_, ?_⟩
  · obtain ⟨t, h, -⟩ := after_spec (o := exec .mb State.reset) (p := fun _ => true) (by decide +kernel)
    exact ⟨t, h⟩
  · obtain ⟨t, h, -⟩ := after_spec (o := step State.reset) (p := fun _ => true) (by decide +kernel)
    exact ⟨t, h⟩

/-- Words with the opcode and function of each operate row named, in a state with no trap pending. -/
def OperateHyps (rows : List (BitVec 6 × BitVec 7)) : Prop :=
  State.reset.trapSumm = 0 ∧ State.reset.trapMask = 0 ∧ Each rows fun p =>
    let w : BitVec 32 := (p.1.setWidth 32 <<< 26) ||| (p.2.setWidth 32 <<< 5)
    w.extractLsb' 26 6 == p.1 && w.extractLsb' 5 7 == p.2

/-- Words with the opcode named. -/
def OpcodeHyps (rows : List (BitVec 6)) : Prop :=
  Each rows fun op => ((op.setWidth 32 : BitVec 32) <<< 26).extractLsb' 26 6 == op

theorem witness_LongAddSubtract :
    OperateHyps [(0x10, 0x00), (0x10, 0x02), (0x10, 0x12), (0x10, 0x09), (0x10, 0x0B), (0x10, 0x1B)] := by
  unfold OperateHyps Each; decide +kernel

theorem witness_QuadAddSubtract :
    OperateHyps [(0x10, 0x20), (0x10, 0x22), (0x10, 0x32), (0x10, 0x29), (0x10, 0x2B), (0x10, 0x3B)] := by
  unfold OperateHyps Each; decide +kernel

/-- For each form, operands at the edge that overflow and operands that do not (95_test_vectors B3). -/
theorem witness_AddSubtractOverflow :
    OperateHyps [(0x10, 0x40), (0x10, 0x49), (0x10, 0x60), (0x10, 0x69)] ∧
    (let v := fun (x y r : Word) (i : Nat) => (~~~(x ^^^ y) &&& (x ^^^ r)).getLsbD i
     let u := fun (x y r : Word) (i : Nat) => ((x ^^^ y) &&& (x ^^^ r)).getLsbD i
     v 0x7FFFFFFF 1 0xFFFFFFFF80000000 31 = true ∧ v 0x7FFFFFFE 1 0x7FFFFFFF 31 = false ∧
     u 0x80000000 1 0x7FFFFFFF 31 = true ∧ u 0x80000001 1 0xFFFFFFFF80000000 31 = false ∧
     v 0x7FFFFFFFFFFFFFFF 1 0x8000000000000000 63 = true ∧ v 0x8000000000000000 0 0x8000000000000000 63 = false ∧
     u 0x8000000000000000 1 0x7FFFFFFFFFFFFFFF 63 = true ∧ u 0 1 0xFFFFFFFFFFFFFFFF 63 = false) := by
  unfold OperateHyps Each; decide +kernel

theorem witness_Compares :
    OperateHyps [(0x10, 0x2D), (0x10, 0x4D), (0x10, 0x6D), (0x10, 0x1D), (0x10, 0x3D), (0x10, 0x0F)] := by
  unfold OperateHyps Each; decide +kernel

/-- The least products that do not fit, and the greatest that do. -/
theorem witness_Multiplies :
    OperateHyps [(0x13, 0x00), (0x13, 0x20), (0x13, 0x30), (0x13, 0x40), (0x13, 0x60)] ∧
    (longProduct 0x10000 0x8000 = 2 ^ 31 ∧ longProduct 0x7FFFFFFF 1 = 2 ^ 31 - 1 ∧
      longProduct 0x80000000 1 = -2 ^ 31 ∧ quadProduct 0x100000000 0x80000000 = 2 ^ 63 ∧
      quadProduct 0x7FFFFFFFFFFFFFFF 1 = 2 ^ 63 - 1) := by
  unfold OperateHyps Each; decide +kernel

theorem witness_LogicalAndFeatureQueries : OperateHyps [(0x11, 0x00), (0x11, 0x08), (0x11, 0x20), (0x11, 0x28), (0x11, 0x40),
    (0x11, 0x48), (0x11, 0x61), (0x11, 0x6C)] := by
  unfold OperateHyps Each; decide +kernel

/-- Values at the edges of the tests: zero, one, minus one. -/
theorem witness_ConditionalMoves :
    OperateHyps [(0x11, 0x14), (0x11, 0x16), (0x11, 0x24), (0x11, 0x26), (0x11, 0x44), (0x11, 0x46), (0x11, 0x64),
      (0x11, 0x66)] ∧
    (let r := fun v : Word => (withRegs [(1, v)] State.reset).readInt 1
     (r 1).toNat % 2 = 1 ∧ (r 0).toNat % 2 = 0 ∧ (r 0).toInt = 0 ∧ (r 1).toInt ≠ 0 ∧ (r (-1)).toInt < 0 ∧
       0 ≤ (r 0).toInt ∧
      (r 0).toInt ≤ 0 ∧ 0 < (r 1).toInt) := by
  unfold OperateHyps Each; decide +kernel

theorem witness_IntegerBranches :
    OpcodeHyps [0x38, 0x39, 0x3A, 0x3B, 0x3C, 0x3D, 0x3E, 0x3F] ∧ State.reset.trapSumm = 0 ∧
    (let r := fun v : Word => (withRegs [(1, v)] State.reset).readInt 1
     (r 1).toNat % 2 = 1 ∧ (r 0).toNat % 2 = 0 ∧ (r 0).toInt = 0 ∧ (r 1).toInt ≠ 0 ∧ (r (-1)).toInt < 0 ∧
       0 ≤ (r 0).toInt ∧
      (r 0).toInt ≤ 0 ∧ 0 < (r 1).toInt) := by
  unfold OpcodeHyps Each; decide +kernel

theorem witness_Shifts : OperateHyps [(0x12, 0x39), (0x12, 0x34), (0x12, 0x3C)] := by unfold OperateHyps Each; decide +kernel

theorem witness_Extracts : OperateHyps [(0x12, 0x06), (0x12, 0x16), (0x12, 0x26), (0x12, 0x36), (0x12, 0x5A), (0x12, 0x6A),
    (0x12, 0x7A)] := by unfold OperateHyps Each; decide +kernel

theorem witness_Inserts : OperateHyps [(0x12, 0x0B), (0x12, 0x1B), (0x12, 0x2B), (0x12, 0x3B), (0x12, 0x57), (0x12, 0x67),
    (0x12, 0x77)] := by unfold OperateHyps Each; decide +kernel

theorem witness_Masks : OperateHyps [(0x12, 0x02), (0x12, 0x12), (0x12, 0x22), (0x12, 0x32), (0x12, 0x52), (0x12, 0x62),
    (0x12, 0x72)] := by unfold OperateHyps Each; decide +kernel

theorem witness_ZapAndSignExtend : OperateHyps [(0x12, 0x30), (0x12, 0x31), (0x1C, 0x00), (0x1C, 0x01)] := by
  unfold OperateHyps Each; decide +kernel

theorem witness_LoadAddress : OpcodeHyps [0x08, 0x09] ∧
  State.reset.trapSumm = 0 := by unfold OpcodeHyps Each; decide +kernel

/-- `R4` holds an address of the data superpage; every other hypothesis of the memory statements holds. -/
def at4 (addr : Word) (answers : List IoAnswer) : State := withRegs [(4, addr)]
  { State.reset with palMode := false, dspe := true, fpen := true, lockFlag := true, ioAnswers := answers }

/-- The last quad of RAM. -/
def lastQuad : Word := 0xFFFFFC00000FFFF8

/-- The first address past RAM. -/
def pastRam : Word := 0xFFFFFC0000100000

/-- The hypotheses of the clauses of the memory rules: no trap pending and a canonical memory; a misaligned address where
the width allows one; an aligned address that translates to RAM, one that faults, one that is answered by a miss and one
that is answered by data. -/
def MemoryHyps (w : Width) (acc : Access) (ask : PhysAddr → IoAccess) : Prop :=
  ((at4 lastQuad []).trapSumm = 0 ∧ Memory.wf (at4 lastQuad []).mem = true ∧ (at4 lastQuad []).cm = 0) ∧
  (w ≠ .byte → ¬ w.bytes ∣ (effAddr (at4 lastQuad []) 4 1).toNat) ∧
  (effAddr (at4 lastQuad []) 4 0 = lastQuad ∧ w.bytes ∣ lastQuad.toNat ∧ w.bytes ∣ pastRam.toNat ∧
    w.bytes ∣ (0x40000#64).toNat) ∧
  (∃ pa s', Machine.translate nativeSetup lastQuad acc 0 (at4 lastQuad []) = .ok pa s' ∧
    decide (pa.toNat < nativeSetup.memSize) = true) ∧
  (∃ k va m s', Machine.translate nativeSetup 0x40000 acc 0 (at4 0x40000 []) = .raised k va m s') ∧
  (∃ pa s', Machine.translate nativeSetup pastRam acc 0 (at4 pastRam [.miss]) = .ok pa s' ∧
    (!decide (pa.toNat < nativeSetup.memSize) && (askIo nativeSetup (ask pa) s').1 == .miss) = true) ∧
  (∃ pa s', Machine.translate nativeSetup pastRam acc 0 (at4 pastRam [.data 5]) = .ok pa s' ∧
    (!decide (pa.toNat < nativeSetup.memSize) && (askIo nativeSetup (ask pa) s').1 == .data 5) = true)

theorem memoryHyps_read (w : Width) : MemoryHyps w .read (fun pa => .read pa w) := by
  cases w <;> exact ⟨by decide +kernel, by decide +kernel, by decide +kernel, okWith_spec (by decide +kernel),
    isRaised_spec (by decide +kernel), okWith_spec (by decide +kernel), okWith_spec (by decide +kernel)⟩

theorem memoryHyps_write (w : Width) : MemoryHyps w .write (fun pa => .write pa w (w.trunc 0)) := by
  cases w <;> exact ⟨by decide +kernel, by decide +kernel, by decide +kernel, okWith_spec (by decide +kernel),
    isRaised_spec (by decide +kernel), okWith_spec (by decide +kernel), okWith_spec (by decide +kernel)⟩

theorem witness_IntegerLoads : OpcodeHyps [0x0A, 0x0C, 0x28, 0x29, 0x0B] ∧
    ∀ w, MemoryHyps w .read (fun pa => .read pa w) := ⟨by unfold OpcodeHyps Each; decide +kernel, memoryHyps_read⟩

theorem witness_LoadsLocked : OpcodeHyps [0x2A, 0x2B] ∧ MemoryHyps .long .read (fun pa => .read pa .long) ∧
    MemoryHyps .quad .read (fun pa => .read pa .quad) :=
  ⟨by unfold OpcodeHyps Each; decide +kernel, memoryHyps_read _, memoryHyps_read _⟩

theorem witness_IntegerStores : OpcodeHyps [0x0E, 0x0D, 0x2C, 0x2D, 0x0F] ∧
    ∀ w, MemoryHyps w .write (fun pa => .write pa w (w.trunc 0)) :=
  ⟨by unfold OpcodeHyps Each; decide +kernel, memoryHyps_write⟩

/-- The lock flag set, as in the memory hypotheses, and clear. -/
theorem witness_StoresConditional : OpcodeHyps [0x2E, 0x2F] ∧
    (MemoryHyps .long .write (fun pa => .write pa .long (Width.long.trunc 0)) ∧
      MemoryHyps .quad .write (fun pa => .write pa .quad (Width.quad.trunc 0))) ∧
    (at4 lastQuad []).lockFlag = true ∧ State.reset.lockFlag = false :=
  ⟨by unfold OpcodeHyps Each; decide +kernel, ⟨memoryHyps_write _, memoryHyps_write _⟩, by decide +kernel, rfl⟩

theorem witness_LinkTransfers : OpcodeHyps [0x30, 0x34, 0x1A] ∧ State.reset.trapSumm = 0 := by
  unfold OpcodeHyps Each; decide +kernel

/-- The enable clear and set, and values on each side of the tests: both zeros, the least negative and positive. -/
theorem witness_FloatingBranches :
    OpcodeHyps [0x31, 0x32, 0x33, 0x35, 0x36, 0x37] ∧ State.reset.fpen = false ∧ (at4 0 []).fpen = true ∧
    (at4 0 []).trapSumm = 0 ∧
    (let r := fun v : Word => ((at4 0 []).writeFp 1 v).readFp 1
     (r 0x8000000000000000).toNat % 2 ^ 63 = 0 ∧ (r 1).toNat % 2 ^ 63 ≠ 0 ∧
      (2 ^ 63 ≤ (r 0x8000000000000001).toNat ∧ (r 0x8000000000000001).toNat % 2 ^ 63 ≠ 0) ∧
      ¬ (2 ^ 63 ≤ (r 1).toNat ∨ (r 1).toNat % 2 ^ 63 = 0) ∧ (r 1).toNat < 2 ^ 63 ∧
      ¬ ((r 0x8000000000000001).toNat < 2 ^ 63 ∨ (r 0x8000000000000001).toNat % 2 ^ 63 = 0)) := by
  unfold OpcodeHyps Each; decide +kernel

theorem witness_BarriersAndHintsDoNothing : State.reset.trapSumm = 0 ∧
    Each [0x0000#16, 0x0400, 0x4000, 0x4400, 0x8000, 0xA000, 0xE800, 0xF800] (fun fn =>
      (0x18#6 ++ 0#10 ++ fn : BitVec 32).extractLsb' 26 6 == 0x18 &&
        (0x18#6 ++ 0#10 ++ fn : BitVec 32).extractLsb' 0 16 == fn) := by
  unfold Each; decide +kernel

theorem witness_CounterAndInterruptFlag : State.reset.trapSumm = 0 ∧
    Each [0xC000#16, 0xF000, 0xE000] (fun fn =>
      (0x18#6 ++ 0#10 ++ fn : BitVec 32).extractLsb' 26 6 == 0x18 &&
        (0x18#6 ++ 0#10 ++ fn : BitVec 32).extractLsb' 0 16 == fn) := by
  unfold Each; decide +kernel

/-- The enable clear, and set with nothing pending; the collaborator's answer is no hypothesis, each one is a case. -/
theorem witness_FloatingOperate : OpcodeHyps [0x14, 0x15, 0x16, 0x17] ∧ State.reset.fpen = false ∧
    (at4 0 []).fpen = true ∧ (at4 0 []).trapSumm = 0 ∧ (at4 0 []).trapMask = 0 := by
  unfold OpcodeHyps Each; decide +kernel

theorem witness_FloatingLoads : OpcodeHyps [0x20, 0x21, 0x22, 0x23] ∧ State.reset.fpen = false ∧
  (at4 lastQuad []).fpen = true ∧
    MemoryHyps .long .read (fun pa => .read pa .long) ∧ MemoryHyps .quad .read (fun pa => .read pa .quad) :=
  ⟨by unfold OpcodeHyps Each; decide +kernel, rfl, by decide +kernel, memoryHyps_read _, memoryHyps_read _⟩

theorem witness_FloatingStores : OpcodeHyps [0x24, 0x25, 0x26, 0x27] ∧ State.reset.fpen = false ∧
  (at4 lastQuad []).fpen = true ∧
    MemoryHyps .long .write (fun pa => .write pa .long (Width.long.trunc 0)) ∧
    MemoryHyps .quad .write (fun pa => .write pa .quad (Width.quad.trunc 0)) :=
  ⟨by unfold OpcodeHyps Each; decide +kernel, rfl, by decide +kernel, memoryHyps_write _, memoryHyps_write _⟩

/-- NATIVE with another `execute_privileged_opcode`, and a collaborator that answers every access with a miss. -/
def calling (p : Callback NativeState OpcodeAnswer) : Setup NativeState :=
  { nativeSetup with
    personality := { nativePersonality with executePrivilegedOpcode := fun _ _ => p }, io := fun _ _ => .miss }

/-- A callback for each answer, one that writes a register first, and one whose own read stops. -/
theorem witness_CallPalEntersFirmware :
    (1#18) ≠ 0 ∧ (user.palMode = false ∧ user.cm ≠ 0) ∧ State.reset.palMode = true ∧ State.reset.trapSumm = 0 ∧
    (let ran := fun p : Callback NativeState OpcodeAnswer =>
      ((calling p).personality.executePrivilegedOpcode 0x80 State.reset).run (calling p) State.reset
     ran (.answer .done) = .answered .done State.reset ∧ ran (.answer .again) = .answered .again State.reset ∧
     ran (.update (.writeInt 1 9) (.answer (.fault .reservedOperand 5))) =
       .answered (.fault .reservedOperand 5) (State.reset.writeInt 1 9) ∧
     ran (.answer (.stop 7)) = .answered (.stop 7) State.reset ∧
     ran (.call (.memRead 0x100000 .quad) fun _ => .answer .done) = .stopped .stopNxm) := by
  refine ⟨by decide, ⟨rfl, by decide⟩, rfl, rfl, rfl, rfl, rfl, rfl, by decide +kernel⟩

/-- `Fault` of a callback that wrote a register first (R381, R414): the fault is dispatched, at the `CALL_PAL`, and the
register is as before. -/
theorem test_callPal_fault :
    after (execUnder (calling (.update (.writeInt 1 9) (.answer (.fault .reservedOperand 5)))) (.callPal 0 true 0) user)
      (fun t => t.ps.faultKind == 2 && t.ps.faultVa == 5 && t.ps.faultMode == user.cm && t.readInt 1 == user.readInt 1 &&
        t.excAddr == user.pc) = true := by decide +kernel

/-- A machine other than the host's: other widths and sizes, and a personality that walks, whose private state holds a bit
of its own beside the registers of the map. -/
def otherSetup : Setup (NativeState × Bool) where
  toConfig := { vaBits := 46, paBits := 45, asnBits := 10, itlbSize := 2, dtlbSize := 2, pcqSize := 4, memSize := 0x8000 }
  personality :=
    { resetPrivate := (NativeState.reset, false)
      resetPc := 0x1003
      resetPalMode := false
      missPolicy := fun _ => .walk
      evalPendingInterrupt := fun _ irq _ => if irq.getLsbD 6 then 7 else 0
      enterOnInterrupt := fun _ _ _ => .update (.pc 0x103) (.answer .entered)
      enterOnTrap := fun _ _ _ _ => .answer (.stop 1)
      enterOnException := fun _ _ _ _ _ => .answer .unexpected
      executePrivilegedOpcode := fun code s =>
        if code = 0 then .answer .again else .update (.privateState (s.ps.1, true)) (.answer .done)
      walkPageTable := fun vpn _ _ _ =>
        if vpn = 5 then .read 0x8000 .quad fun _ => .answer (.pte 0) else .answer (.pte (vpn <<< 32 ||| 0xFF01))
      registers :=
        { get := fun p => p.1
          set := fun n p => (n, p.2)
          get_set := fun _ _ => rfl
          set_get := fun _ => rfl
          set_set := fun _ _ _ => rfl } }
  fp := fun _ _ _ _ _ => .reserved
  io := fun _ _ => .miss
  valid := Config.valid_of_check (by decide)

/-- The reset state of `otherSetup` with `CALL_PAL` at the address `reset_pc` is aligned to, and with one word more. -/
def otherReset : State (NativeState × Bool) := (otherSetup.reset []).loadImage 0x1000 (bytesOfNat 8 0x47FFF40100000083)

/-- The parameters reach the step: the widths, the queue's size, the walk, the callback and its private state. -/
theorem test_other_machine :
    (let s := otherReset
     (s.pcq.length == 4 && s.pc == 0x1000) = true ∧
     after (stepUnder otherSetup s) (fun t => t.pc == 0x1004 && t.report == .running && t.ps.2 && t.itlb.nlu == 1) = true ∧
     after (stepUnder otherSetup { s with irq := 0x40 }) (fun t => t.pc == 0x100 && t.itlb.nlu == 0) = true ∧
     canonicalVa otherSetup 0x1FFFFFFFFFFF = true ∧ canonicalVa nativeSetup 0x1FFFFFFFFFFF = false) := by decide +kernel

/-- A missed access of a callback's own ends the step with `STOP_NXM`: of an interrupt entry that pushes a word, and of a
page-table walk (R77, R130). -/
theorem test_callback_misses :
    (let pushing := { otherSetup with
       personality := { otherSetup.personality with
         enterOnInterrupt := fun _ _ _ => .call (.memWrite 0x8000 .quad 1) fun _ => .answer .entered } }
     stops (stepUnder pushing { otherReset with irq := 0x40 }) .stopNxm = true ∧
     stops (stepUnder otherSetup { otherReset with pc := 0xA000 }) .stopNxm = true) := by decide +kernel

/-- The internal-register map under another personality (R391): `HALT` and `PAL_TEMP5` are written, the bit of its own is
kept, and an index that is not listed raises reserved-operand, which this personality does not expect. -/
theorem test_other_registers :
    (let s := { otherReset with ps := (NativeState.reset, true) }
     after (execUnder otherSetup (.hwMtpr 31 0x000F) s) (fun t => t.ps.1.haltReq && t.ps.2 &&
       (t.endStep otherSetup).report == .haltRequested && !(t.endStep otherSetup).ps.1.haltReq) = true ∧
     after (execUnder otherSetup (.hwMtpr 1 0x0045) (s.writeInt 1 7)) (fun t => iprRead otherSetup 0x0045 t == some 7 && t.ps.2) = true ∧
     stops (execUnder otherSetup (.hwMfpr 1 0x000D) s) .stopConfig = true) := by decide +kernel

/-- Configurations outside R7's constraints are refused. -/
theorem test_refused_configurations :
    Config.check { vaBits := 0, memSize := 0 } = false ∧ Config.check { pcqSize := 3, memSize := 0 } = false ∧
    Config.check { pcqSize := 0, memSize := 0 } = false ∧ Config.check { memSize := 12 } = false ∧
    Config.check { memSize := 8 } = true := by decide

/-- Denied, allowed, and the indices next to the ends of the readable ranges. -/
theorem witness_InternalRegisterReads :
    (0x643F0000#32).extractLsb' 26 6 = 0x19 ∧ ¬ (user.palMode = true ∨ user.cm = 0) ∧ State.reset.palMode = true ∧
    State.reset.trapSumm = 0 ∧
    Each [0x000D#16, 0x000F, 0x0011, 0x0013, 0x0021, 0x0023, 0x003F, 0x0058, 0x00FF, 0x0140, 0xFFFF] (fun index =>
      decide (¬ ReadableIndex 64 index)) ∧
    Each [0x0000#16, 0x0001, 0x0006, 0x000C, 0x000E, 0x0012, 0x0022, 0x0040, 0x0057, 0x0100, 0x013F] (fun index =>
      (iprRead nativeSetup index State.reset).isSome) := by
  unfold Each; decide +kernel

/-- Denied, allowed, a table load that completes and one that stops, and the indices that cannot be written. -/
theorem witness_InternalRegisterWrites :
    (0x77E10002#32).extractLsb' 26 6 = 0x1D ∧ ¬ (user.palMode = true ∨ user.cm = 0) ∧ State.reset.palMode = true ∧
    State.reset.trapSumm = 0 ∧
    (∃ e s', tlbLoad nativeSetup .data State.reset.dtbTag 0x0000000900009901 State.reset = .ok e s' ∧ true = true) ∧
    (let s := { State.reset with itlb := { State.reset.itlb with nlu := 48 } }
     tlbLoad nativeSetup .instruction s.itbTag 0x0000000900009901 s = .stopped .stopEngine) ∧
    Each [0x0006#16, 0x0007, 0x0009, 0x000B, 0x000D, 0x000E, 0x0016, 0x001F, 0x0026, 0x002F, 0x0033, 0x003F, 0x0058,
        0x0100, 0xFFFF] (fun index =>
      decide (¬ WritableIndex index)) := by
  refine ⟨by decide +kernel, by decide +kernel, rfl, rfl, okWith_spec (p := fun _ _ => true) (by decide +kernel),
    isStop_spec (by decide +kernel), by unfold Each; decide +kernel⟩

/-- The physical place past RAM and inside it, and every clause of the memory rules through translation. -/
theorem witness_HardwareLoad :
    (0x6C229000#32).extractLsb' 26 6 = 0x1B ∧ ¬ (user.palMode = true ∨ user.cm = 0) ∧
    ({ hwQual with mbz13 := true } : HwQualifiers).mbz13 = true ∧
      ({ hwQual with mbz11 := true } : HwQualifiers).mbz11 = true ∧
    (hwQual.mbz13 = false ∧ hwQual.mbz11 = false) ∧
    (∃ pa s', hwPlace hwQual 0xFFFF8 .read State.reset = .ok pa s' ∧ decide (pa.toNat < nativeSetup.memSize) = true) ∧
    MemoryHyps .long .read (fun pa => .read pa .long) ∧ MemoryHyps .quad .read (fun pa => .read pa .quad) :=
  ⟨by decide, by decide +kernel, rfl, rfl, ⟨rfl, rfl⟩, okWith_spec (by decide +kernel), memoryHyps_read _,
    memoryHyps_read _⟩

theorem witness_HardwareStore :
    (0x7C229000#32).extractLsb' 26 6 = 0x1F ∧ ¬ (user.palMode = true ∨ user.cm = 0) ∧
    ({ hwQual with mbz13 := true } : HwQualifiers).mbz13 = true ∧
      ({ hwQual with mbz11 := true } : HwQualifiers).mbz11 = true ∧
    (({ hwQual with lock := true } : HwQualifiers).lock = true ∧ State.reset.lockFlag = false ∧ hwQual.lock = false ∧
      (at4 0 []).lockFlag = true) ∧
    (∃ pa s', hwPlace hwQual 0xFFFF8 .write State.reset = .ok pa s' ∧ decide (pa.toNat < nativeSetup.memSize) = true) ∧
    MemoryHyps .long .write (fun pa => .write pa .long (Width.long.trunc 0)) ∧
    MemoryHyps .quad .write (fun pa => .write pa .quad (Width.quad.trunc 0)) :=
  ⟨by decide, by decide +kernel, rfl, rfl, ⟨rfl, rfl, rfl, by decide +kernel⟩, okWith_spec (by decide +kernel),
    memoryHyps_write _, memoryHyps_write _⟩

/-- An address for each case, at the ends of the ranges: not a sign extension, the superpage's last byte, a miss, and for a
found entry each result of the check. -/
theorem witness_TranslationOrder :
    (let high := fun va : Word => va.toNat / 2 ^ 42
     (¬ (high 0x40000000000 = 0 ∨ high 0x40000000000 = 2 ^ 22 - 1)) ∧ high 0x3FFFFFFFFFF = 0 ∧
      high 0xFFFFFC0000000000 = 2 ^ 22 - 1) ∧
    (({ ttr with dspe := true } : State).dspe = true ∧ (0xFFFFFDFFFFFFFFFF#64).toNat / 2 ^ 41 % 4 = 2 ∧
      ¬ (0xFFFFFE0000000000#64).toNat / 2 ^ 41 % 4 = 2) ∧
    (ttr.lookup .data 0x48).1.isNone = true ∧
    ([0x20, 0x21, 0x22, 0x23].all fun vpn => (ttr.lookup .data vpn).1.isSome) = true ∧
    ((ttr.lookup .data 0x20).1.map (·.pte.getLsbD 9)) = some false ∧
    ((ttr.lookup .data 0x21).1.map fun e => (e.pte.getLsbD 8, e.pte.getLsbD 0)) = some (true, false) ∧
    ((ttr.lookup .data 0x22).1.map fun e => (e.pte.getLsbD 8, e.pte.getLsbD 0, e.pte.getLsbD 1)) = some (true, true, true) ∧
    ((ttr.lookup .data 0x20).1.map fun e => (e.pte.getLsbD 8, e.pte.getLsbD 0, e.pte.getLsbD 1)) =
      some (true, true, false) := by decide +kernel

/-- Every valid entry of a table has this property. -/
def entriesHave (t : Tlb) (p : TlbEntry → Bool) : Bool :=
  t.slots.all fun slot => match slot with
    | some e => p e
    | none => true

theorem entriesHave_spec {t : Tlb} {p : TlbEntry → Bool} (h : entriesHave t p = true) (e : TlbEntry)
    (m : some e ∈ t.slots) : p e = true := List.all_eq_true.mp h (some e) m

/-- A table whose conditions evaluate to true is consistent. -/
theorem consistent_of {c : Config} {n : Nat} {t : Tlb} (size : t.slots.length = n) (pointer : t.nlu < n)
    (asn : t.asn.toNat < 2 ^ c.asnBits)
    (entries : entriesHave t (fun e => decide (e.ghMask = Machine.ghMask (e.pte.extractLsb' 5 2) ∧
      e.tag &&& e.ghMask = 0 ∧
      e.pfn &&& e.ghMask = 0 ∧ e.tag.toNat < 2 ^ c.vpnBits ∧ e.pfn.toNat < 2 ^ c.pfnBits ∧
        e.asn.toNat < 2 ^ c.asnBits) && (!pteGlobal e.pte || e.asn == t.asn)) = true) (mini : t.mini = none) :
    t.Consistent c n := by
  refine ⟨size, pointer, asn, fun e m => ?_, fun e m g => ?_, fun vpn e m => ?_⟩
  · have := entriesHave_spec entries e m
    simp only [Bool.and_eq_true, decide_eq_true_eq] at this
    obtain ⟨⟨a, b, c, d, e, f⟩, -⟩ := this
    exact ⟨a, ⟨b, c⟩, ⟨d, e, f⟩⟩
  · have := entriesHave_spec entries e m
    simp only [Bool.and_eq_true, g] at this
    exact eq_of_beq (by simpa using this.2)
  · rw [mini] at m; cases m

/-- A consistent table that has a wildcarded page and has not the page after its block. -/
theorem witness_LookupIsTableMatch : (ttr.tlb .data).Consistent Config.standard (nativeSetup.tlbSize .data) ∧
    (ttr.lookup .data 0x47).1.isSome = true ∧ (ttr.lookup .data 0x48).1.isNone = true :=
  ⟨consistent_of (by decide +kernel) (by decide +kernel) (by decide +kernel) (by decide +kernel) (by decide +kernel), by decide +kernel,
    by decide +kernel⟩

/-- A slot that holds the page, and a table that does not, with the pointer inside and outside. -/
theorem witness_TlbLoadReplacement :
    ((ttr.tlb .data).slotOf 0x20 = some 0 ∧ (ttr.tlb .data).slotOf 0x21 = some 1) ∧
    (State.reset.tlb .data).slotOf 0x20 = none ∧ (State.reset.tlb .data).nlu < nativeSetup.tlbSize .data ∧
    ¬ ({ State.reset.itlb with nlu := 48 } : Tlb).nlu < nativeSetup.tlbSize .instruction := by decide +kernel

/-- An entry that is not global. -/
theorem witness_TlbMaintenance :
    (let e := pteEntry nativeSetup 0 0x20 0x0000000900009901
     e.pte.getLsbD 4 = false ∧ e ∈ (ttr.tlb .data).matching 0x20) := by decide +kernel

/-- NATIVE with the policy WALK and this walk. -/
def walking (w : Walk fun _ => .walk) : Setup NativeState :=
  { nativeSetup with
    personality := { nativePersonality with missPolicy := fun _ => .walk, walkPageTable := fun _ _ _ _ => w } }

/-- What a walked PTE leads to, after the installation. -/
def walkedFault (pte : Word) (k : FaultKind) : Bool :=
  match Machine.translate (walking (.answer (.pte pte))) 0x90000 .read 2 ttr with
  | .raised k' va m s' => k' == k && va == 0x90000 && m == 2 && s'.dtlb.nlu == 6 && s'.dtlb.mini == none
  | .ok _ _ => false
  | .stopped _ => false

/-- A walked PTE is installed and then checked (R107, R108): without its enable bit, with V = 0, with fault-on-read; a
walker's own kind is raised with the access's mode, and nothing is installed. -/
theorem test_walk_faults :
    walkedFault 0x0000000900000101 (.accessViolation .read) = true ∧
    walkedFault 0x0000000900000400 (.translationNotValid .read) = true ∧
    walkedFault 0x0000000900000403 (.faultOnReference .read) = true ∧
    Machine.translate (walking (.answer (.fault (.accessViolation .write)))) 0x90000 .read 2 ttr =
      .raised (.accessViolation .write) 0x90000 2 ttr := by decide +kernel

/-- A hit, a walk that installs an entry, a TLB-miss under FAULT, a walk whose read is missed; and what the clauses on a walk
ask of the address, the table and the installation, with an installation that stops. -/
theorem witness_MissPolicyInstallsOneEntry :
    (∃ pa s', Machine.translate nativeSetup 0x40010 .read 3 ttr = .ok pa s' ∧ (pa == 0x12010) = true) ∧
    (∃ pa s', Machine.translate (walking (.answer (.pte 0x0000000900000101))) 0x90000 .read 0 ttr = .ok pa s' ∧
      (pa == 0x12000 && s'.dtlb.nlu == 6) = true) ∧
    (∃ s', Machine.translate nativeSetup 0x90000 .read 0 ttr = .raised (.tlbMiss .read) 0x90000 0 s') ∧
    (Machine.translate otherSetup 0xA000 .read 0 otherReset = .stopped .stopNxm ∧
      (Walk.run otherSetup (otherSetup.personality.walkPageTable 5 .data .read otherReset) otherReset) = .stopped .stopNxm) ∧
    (let M := walking (.answer (.pte 0x0000000900000101))
     canonicalVa M 0x90000 = true ∧ (ttr.superpage .data && inSuperpage M 0x90000) = false ∧
       ttr.lookup .data (vpnOf M 0x90000) = (none, ttr) ∧
       (∃ e s', tlbLoad M .data (vpnOf M 0x90000) 0x0000000900000101 ttr = .ok e s' ∧ true = true) ∧
       tlbLoad M .data (vpnOf M 0x90000) 0x0000000900000101 { ttr with dtlb := { ttr.dtlb with nlu := 64 } } =
         .stopped .stopEngine) :=
  ⟨okWith_spec (by decide +kernel), okWith_spec (by decide +kernel), ⟨ttr, by decide +kernel⟩, by decide +kernel,
    by decide +kernel, by decide +kernel, by decide +kernel, okWith_spec (p := fun _ _ => true) (by decide +kernel),
    by decide +kernel⟩

/-- The last quad of RAM, its first and last byte. -/
theorem witness_MemoryReadsBack : Memory.wf State.reset.mem = true ∧
    (∃ u s', memWrite nativeSetup 0xFFFF8 .quad 5 State.reset = .ok u s' ∧ true = true) ∧
    (0 < 8 ∧ 7 < 8 ∧ 8 ∣ (0xFFFF8#64).toNat ∧ (0xFFFF8#64).toNat < nativeSetup.memSize) :=
  ⟨rfl, okWith_spec (p := fun _ _ => true) (by decide +kernel), by decide⟩

/-- A page of RAM and the last quad. -/
theorem witness_AlignedAccessesNeverStraddle :
    (Width.quad.bytes ∣ (0x40010#64).toNat ∧
      ∃ pa s', Machine.translate nativeSetup 0x40010 .read 0 ttr = .ok pa s' ∧ decide (pa.toNat < nativeSetup.memSize) = true) ∧
    ∃ pa s', Machine.translate nativeSetup lastQuad .read 0 (at4 lastQuad []) = .ok pa s' ∧ (pa == 0xFFFF8) = true :=
  ⟨⟨by decide, okWith_spec (by decide +kernel)⟩, okWith_spec (by decide +kernel)⟩

/-- An image, and a personality that asks for no halt at reset. -/
theorem witness_ResetMeetsInvariant :
    Memory.wf [((5 : Nat), (7 : Byte))] = true ∧
    (otherSetup.personality.registers.get otherSetup.personality.resetPrivate).haltReq = false :=
  ⟨rfl, rfl⟩

/-- A state outside firmware with loaded tables meets the invariant, and its next step completes. -/
theorem witness_EveryStepKeepsInvariant : Inv nativeSetup ttr ∧ ∃ t, step ttr = .next t := by
  refine ⟨⟨by decide +kernel, by decide +kernel, by decide +kernel, by decide +kernel, by decide +kernel, by decide +kernel,
    by decide +kernel, by decide +kernel,
    consistent_of (by decide +kernel) (by decide +kernel) (by decide +kernel) (by decide +kernel) (by decide +kernel),
    consistent_of (by decide +kernel) (by decide +kernel) (by decide +kernel) (by decide +kernel) (by decide +kernel)⟩, ?_⟩
  obtain ⟨t, h, -⟩ := after_spec (o := step ttr) (p := fun _ => true) (by decide +kernel)
  exact ⟨t, h⟩

/-- A callback that switches the mode, from a state that meets the clauses' premises; accesses that are missed; a read and a
write that meet a fault; a `Fault` answer; and, in a machine that is not the host's, a state where the two moves are denied,
one where they are legal, the indices at the ends of the queue's window, and a load of a table entry that completes and one
that stops. -/
theorem witness_PersonalityContract :
    ((Callback.update (.cm 0) (.answer EntryAnswer.entered)).run nativeSetup user =
        .answered .entered ({ user with cm := 0 } : State) ∧ user.pc.extractLsb' 0 2 = 0 ∧
      user.excAddr.getLsbD 1 = false ∧ Memory.wf user.mem = true) ∧
    (otherSetup.memSize ≤ (0x8000#64).toNat ∧ (askIo otherSetup (.read 0x8000 .quad) otherReset).1 = .miss ∧
      (askIo otherSetup (.write 0x8000 .quad 1) otherReset).1 = .miss) ∧
    (vread nativeSetup 0x90000 .quad 0 ttr = .raised (.tlbMiss .read) 0x90000 0 ttr ∧
      vwrite nativeSetup 0x90000 .quad 1 0 ttr = .raised (.tlbMiss .write) 0x90000 0 ttr) ∧
    nativeSetup.personality = nativePersonality ∧
    (let M := calling (.answer (.fault .reservedOperand 5))
     (M.personality.executePrivilegedOpcode 0x80 user).run M user = .answered (.fault .reservedOperand 5) user) ∧
    (let denied : State (NativeState × Bool) := { otherReset with cm := 3 }
     ¬ (denied.palMode = true ∨ denied.cm = 0)) ∧
    (otherReset.cm = 0 ∧ otherReset.trapSumm = 0) ∧
    (3 < otherSetup.pcqSize ∧ ¬ ReadableIndex otherSetup.pcqSize 0x0104 ∧ ¬ WritableIndex 0x0100) ∧
    (match tlbLoad otherSetup .data otherReset.dtbTag 0xFF01 otherReset with
      | .ok _ _ => true
      | .raised _ _ _ _ => false
      | .stopped _ => false) = true ∧
    (match tlbLoad otherSetup .data 0 0xFF01 { otherReset with dtlb := { otherReset.dtlb with nlu := 2 } } with
      | .ok _ _ => false
      | .raised _ _ _ _ => false
      | .stopped f => f == .stopEngine) = true :=
  ⟨⟨rfl, by decide +kernel, by decide +kernel, by decide +kernel⟩,
    ⟨by decide +kernel, by decide +kernel, by decide +kernel⟩, ⟨by decide +kernel, by decide +kernel⟩, rfl, rfl,
    by decide +kernel, by decide +kernel, by decide +kernel, by decide +kernel, by decide +kernel⟩

/-- Configurations within the constraints and outside them; a machine that is not the host's, in a state that meets its
invariant, and its step completes. -/
theorem witness_EveryMachineKeepsInvariant : Config.standard.Valid ∧ ¬ ({ vaBits := 14, memSize := 0 } : Config).Valid ∧
    Inv otherSetup otherReset ∧ ∃ t, stepUnder otherSetup otherReset = .next t := by
  refine ⟨Config.standard_valid, fun h => absurd h.vaBits.1 (by decide), ⟨by decide +kernel, by decide +kernel, by decide +kernel,
    by decide +kernel, by decide +kernel, by decide +kernel, by decide +kernel, by decide +kernel,
    consistent_of (by decide +kernel) (by decide +kernel) (by decide +kernel) (by decide +kernel) (by decide +kernel),
    consistent_of (by decide +kernel) (by decide +kernel) (by decide +kernel) (by decide +kernel) (by decide +kernel)⟩, ?_⟩
  obtain ⟨t, h, -⟩ := after_spec (o := stepUnder otherSetup otherReset) (p := fun _ => true) (by decide +kernel)
  exact ⟨t, h⟩

/-- A user-mode instruction that completes, and one that enters firmware. -/
theorem witness_UserModeIsConfined : user.palMode = false ∧ user.cm ≠ 0 ∧ user.trapSumm = 0 ∧ user.trapMask = 0 ∧
    (∃ t, exec .mb user = .next t ∧ (!t.palMode) = true) ∧ ∃ t, exec (.callPal 0 true 3) user = .next t ∧
      t.palMode = true :=
  ⟨rfl, by decide, rfl, rfl, after_spec (by decide +kernel), after_spec (by decide +kernel)⟩

/-- NATIVE with a collaborator that sets the control state. -/
def settingFpcr : Setup NativeState := { nativeSetup with fp := fun _ _ _ _ _ => .done none 5 0 }

/-- For each piece of state, an instruction that changes it. -/
theorem witness_WhoChangesWhat :
    (let s := withRegs [(1, 0xF)] { State.reset with ipl := 0 }
     let changes := fun (i : Instr) (p : State → Bool) => after (execUnder nativeSetup i s) p
     s.trapSumm = 0 ∧ changes (.hwMtpr 1 3) (fun t => t.cm != s.cm) = true ∧
       changes (.hwMtpr 1 5) (fun t => t.ipl != s.ipl) = true ∧
     changes (.hwMtpr 1 2) (fun t => t.fpen != s.fpen) = true ∧
       changes (.hwMtpr 1 4) (fun t => t.altMode != s.altMode) = true ∧
     changes (.rs 2) (fun t => t.intrFlag != s.intrFlag) = true ∧
       changes (.hwMtpr 1 0x40) (fun t => t.ps.palTemp != s.ps.palTemp) = true ∧
     changes (.hwMtpr 1 0xC) (fun t => t.lockFlag != s.lockFlag) = true ∧
       changes (.br 1 0) (fun t => t.pcqP != s.pcqP) = true ∧
     changes (.hwSt 1 2 hwQual 0) (fun t => t.mem != s.mem) = true) ∧
    after (execUnder settingFpcr (.flti 1 2 3 0x0A0) { State.reset with fpen := true }) (fun t => t.fpcr != 0) = true ∧
    settingFpcr.personality = nativePersonality ∧ nativeSetup.personality = nativePersonality ∧
    after (execUnder nativeSetup (.hwMtpr 1 1) (withRegs [(1, 0x8000)] State.reset)) (fun t => t.palBase != State.reset.palBase) = true := by
  refine ⟨by decide +kernel, by decide +kernel, rfl, rfl, by decide +kernel⟩

end Sys2Proof.Tests
end

/-! ## Proofs of the statements about translation (20_memory R100 to R114) -/

namespace Sys2Proof.Machine

section TranslationTables

variable {π : Type} {M : Setup π}

/-! ### The tests of the translator as arithmetic (R102, R103, R108, R109) -/

theorem Access.side_eq (acc : Access) : acc.side = if acc = .execute then .instruction else .data := by
  cases acc <;> rfl

theorem State.superpage_side (s : State π) (acc : Access) :
    s.superpage acc.side = if acc = .execute then s.ispe else s.dspe := by cases acc <;> rfl

theorem canonicalVa_iff (M : Setup π) (va : Word) :
    canonicalVa M va = true ↔
      va.toNat / 2 ^ (M.vaBits - 1) = 0 ∨ va.toNat / 2 ^ (M.vaBits - 1) = 2 ^ (65 - M.vaBits) - 1 := by
  simp [canonicalVa]

theorem inSuperpage_iff (M : Setup π) (va : Word) :
    inSuperpage M va = true ↔ va.toNat / 2 ^ (M.vaBits - 2) % 4 = 2 := by
  rw [inSuperpage, beq_iff_eq, ← BitVec.toNat_inj, field_toNat]
  rfl

theorem superpagePa_eq (M : Setup π) (va : Word) :
    superpagePa M va = BitVec.ofNat 64 (va.toNat % 2 ^ (M.vaBits - 2)) := by
  simp [superpagePa, field]

/-- Write enables begin at bit 12, the read enables that a fetch needs too at bit 8 (R108). -/
theorem pteEnable_eq (pte : BitVec 16) (acc : Access) (m : Mode) :
    pteEnable pte acc m = pte.getLsbD ((if acc = .write then 12 else 8) + m.toNat) := by cases acc <;> rfl

theorem pteFaultOn_eq (pte : BitVec 16) (acc : Access) :
    pteFaultOn pte acc = pte.getLsbD (if acc = .read then 1 else if acc = .write then 2 else 3) := by
  cases acc <;> rfl

/-- The frame and the wildcarded page bits above the offset: the offset fills the low bits the shift leaves clear (R109). -/
theorem physOf_eq (M : Setup π) (e : TlbEntry) (va : Word) :
    physOf M e va =
      BitVec.ofNat 64 ((e.pfn ||| (vpnOf M va &&& e.ghMask)).toNat * 2 ^ 13 + va.toNat % 2 ^ 13) := by
  have offset_lt : va.toNat % 2 ^ 13 < 2 ^ 13 := Nat.mod_lt _ (by decide)
  have offset_mod : va.toNat % 2 ^ 13 % 2 ^ 64 = va.toNat % 2 ^ 13 := Nat.mod_eq_of_lt (by omega)
  have offset : (field va 0 Config.pageBits).toNat = va.toNat % 2 ^ 13 := by
    simp [field_toNat, Config.pageBits]
  apply BitVec.eq_of_toNat_eq
  rw [physOf, BitVec.toNat_or, offset, BitVec.toNat_shiftLeft, BitVec.toNat_ofNat, Nat.mul_comm,
    Nat.two_pow_add_eq_or_of_lt offset_lt, Nat.or_mod_two_pow, offset_mod, Nat.shiftLeft_eq, Nat.mul_comm, Config.pageBits]

/-! ### The translator's branches, in the order of R100 -/

theorem translate_of_not_canonical {va : Word} (acc : Access) (m : Mode) (s : State π) (h : canonicalVa M va = false) :
    translate M va acc m s = .raised (.badVirtualAddress acc) va m s := by
  simp [translate, h]

theorem translate_of_superpage {va : Word} {acc : Access} (m : Mode) {s : State π} (h : canonicalVa M va = true)
    (enabled : s.superpage acc.side = true) (window : inSuperpage M va = true) :
    translate M va acc m s =
      if m ≠ 0 then .raised (.accessViolation acc) va m s else .ok (superpagePa M va) s := by
  simp [translate, h, enabled, window]

theorem translate_of_table {va : Word} {acc : Access} (m : Mode) {s : State π} (h : canonicalVa M va = true)
    (outside : ¬ (s.superpage acc.side = true ∧ inSuperpage M va = true)) :
    translate M va acc m s = translateTable M va acc m s := by
  rw [translate, if_neg (by simp [h]), if_neg (by simpa using outside)]

theorem translateTable_of_miss {va : Word} {acc : Access} (m : Mode) {s s' : State π}
    (policy : M.personality.missPolicy acc.side = .fault) (h : s.lookup acc.side (vpnOf M va) = (none, s')) :
    translateTable M va acc m s = .raised (.tlbMiss acc) va m s' := by
  simp only [translateTable, h, missEntry, policy]
  rfl

theorem translateTable_of_hit {va : Word} {acc : Access} (m : Mode) {s s' : State π} {e : TlbEntry}
    (h : s.lookup acc.side (vpnOf M va) = (some e, s')) :
    translateTable M va acc m s = useEntry M va acc m e s' := by
  simp only [translateTable, h]

theorem useEntry_of_fault {va : Word} {acc : Access} {m : Mode} {e : TlbEntry} (s : State π) {k : FaultKind}
    (h : checkPte e.pte acc m = some k) : useEntry M va acc m e s = .raised k va m s := by
  simp only [useEntry, h]

theorem useEntry_of_pass {va : Word} {acc : Access} {m : Mode} {e : TlbEntry} (s : State π)
    (h : checkPte e.pte acc m = none) :
    useEntry M va acc m e s = .ok (physOf M e va) (s.setMini acc.side (vpnOf M va) e) := by
  simp only [useEntry, h]

/-- The use of an entry, each outcome by the bit that decides it: enable, then valid, then fault-on-reference (R108). -/
theorem useEntry_cases (M : Setup π) (va : Word) (acc : Access) (m : Mode) (e : TlbEntry) (s : State π) :
    (pteEnable e.pte acc m = false → useEntry M va acc m e s = .raised (.accessViolation acc) va m s) ∧
    (pteEnable e.pte acc m = true → pteValid e.pte = false →
      useEntry M va acc m e s = .raised (.translationNotValid acc) va m s) ∧
    (pteEnable e.pte acc m = true → pteValid e.pte = true → pteFaultOn e.pte acc = true →
      useEntry M va acc m e s = .raised (.faultOnReference acc) va m s) ∧
    (pteEnable e.pte acc m = true → pteValid e.pte = true → pteFaultOn e.pte acc = false →
      useEntry M va acc m e s = .ok (physOf M e va) (s.setMini acc.side (vpnOf M va) e)) := by
  refine ⟨fun enable => ?_, fun enable valid => ?_, fun enable valid faultOn => ?_, fun enable valid faultOn => ?_⟩
  · exact useEntry_of_fault s (by simp [checkPte, enable])
  · exact useEntry_of_fault s (by simp [checkPte, enable, valid])
  · exact useEntry_of_fault s (by simp [checkPte, enable, valid, faultOn])
  · exact useEntry_of_pass s (by simp [checkPte, enable, valid, faultOn])

/-! ### Loading an entry (R110) -/

theorem ghMask_eq (gh : BitVec 2) : ghMask gh = BitVec.ofNat 64 (8 ^ gh.toNat - 1) := by
  revert gh; decide

/-- The entry that `TlbLoad` builds, its fields cut from the PTE by arithmetic (R101). -/
theorem pteEntry_eq (M : Setup π) (asn : Asn) (vpn : Vpn) (p : Word) :
    pteEntry M asn vpn p =
      { tag := vpn &&& ~~~BitVec.ofNat 64 (8 ^ (p.toNat / 32 % 4) - 1)
        asn := asn
        pte := BitVec.ofNat 16 p.toNat
        pfn := BitVec.ofNat 64 (p.toNat / 2 ^ 32 % 2 ^ M.pfnBits) &&& ~~~BitVec.ofNat 64 (8 ^ (p.toNat / 32 % 4) - 1)
        ghMask := BitVec.ofNat 64 (8 ^ (p.toNat / 32 % 4) - 1) } := by
  have gh : (p.extractLsb' 5 2).toNat = p.toNat / 32 % 4 := by
    rw [BitVec.extractLsb'_toNat, Nat.shiftRight_eq_div_pow]
  have low : p.extractLsb' 0 16 = BitVec.ofNat 16 p.toNat := rfl
  simp only [pteEntry, ghMask_eq, gh, low, field]

/-- Slot `j` holds a valid entry with this tag in the current ASN. -/
def Tlb.Holds (t : Tlb) (tag : Vpn) (j : Nat) : Prop :=
  ∃ old, t.slots[j]? = some (some old) ∧ old.tag = tag ∧ old.asn = t.asn

/-- `Tlb.Holds` of a slot's content, as a test. -/
def Tlb.holdsIn (t : Tlb) (tag : Vpn) (slot : Option TlbEntry) : Bool :=
  slot.any fun e => e.tag == tag && e.asn == t.asn

theorem Tlb.holdsIn_getElem_iff (t : Tlb) (tag : Vpn) {j : Nat} (h : j < t.slots.length) :
    t.holdsIn tag t.slots[j] = true ↔ t.Holds tag j := by
  simp [Tlb.holdsIn, Tlb.Holds, Option.any_eq_true, List.getElem?_eq_getElem h]

theorem Tlb.Holds.lt_length {t : Tlb} {tag : Vpn} {j : Nat} (h : t.Holds tag j) : j < t.slots.length := by
  obtain ⟨old, hslot, -⟩ := h
  exact (List.getElem?_eq_some_iff.mp hslot).1

theorem Tlb.slotOf_eq_findIdx? (t : Tlb) (tag : Vpn) : t.slotOf tag = t.slots.findIdx? (t.holdsIn tag) := by
  unfold Tlb.slotOf
  congr 1
  funext slot
  cases slot <;> rfl

/-- The slot found is the lowest that holds the tag. -/
theorem Tlb.slotOf_eq_some {t : Tlb} {tag : Vpn} {slot : Nat} (h : t.Holds tag slot)
    (lowest : ∀ j < slot, ¬ t.Holds tag j) : t.slotOf tag = some slot := by
  rw [slotOf_eq_findIdx?, List.findIdx?_eq_some_iff_getElem]
  refine ⟨h.lt_length, (t.holdsIn_getElem_iff tag _).mpr h, fun j hj found => ?_⟩
  exact lowest j hj ((t.holdsIn_getElem_iff tag _).mp found)

/-- None is found where no slot holds the tag. -/
theorem Tlb.slotOf_eq_none {t : Tlb} {tag : Vpn} (h : ∀ j, ¬ t.Holds tag j) : t.slotOf tag = none := by
  rw [slotOf_eq_findIdx?, List.findIdx?_eq_none_iff]
  intro slot hmem
  obtain ⟨j, hj, rfl⟩ := List.mem_iff_getElem.mp hmem
  exact Bool.eq_false_iff.mpr fun found => h j ((t.holdsIn_getElem_iff tag hj).mp found)

theorem tlbLoad_of_slot {side : Side} {vpn : Vpn} {p : Word} {s : State π} {slot : Nat}
    (h : (s.tlb side).slotOf (pteEntry M (s.tlb side).asn vpn p).tag = some slot) :
    tlbLoad M side vpn p s = .ok (pteEntry M (s.tlb side).asn vpn p) (s.setTlb side
      { s.tlb side with
        slots := (s.tlb side).slots.set slot (some (pteEntry M (s.tlb side).asn vpn p)), mini := none }) := by
  simp only [tlbLoad, h]

theorem tlbLoad_of_no_slot {side : Side} {vpn : Vpn} {p : Word} {s : State π}
    (h : (s.tlb side).slotOf (pteEntry M (s.tlb side).asn vpn p).tag = none) :
    tlbLoad M side vpn p s =
      if (s.tlb side).nlu < M.tlbSize side then
        .ok (pteEntry M (s.tlb side).asn vpn p) (s.setTlb side
          { s.tlb side with
            slots := (s.tlb side).slots.set (s.tlb side).nlu (some (pteEntry M (s.tlb side).asn vpn p))
            nlu := ((s.tlb side).nlu + 1) % M.tlbSize side, mini := none })
      else .stopped .stopEngine := by
  simp only [tlbLoad, h]

/-! ### Changing the ASN and invalidating (R111 to R113) -/

/-- An entry after the current ASN becomes `a` (R111). -/
def TlbEntry.retag (a : Asn) (e : TlbEntry) : TlbEntry := if e.pte.getLsbD 4 then { e with asn := a } else e

/-- An entry that is not global is re-tagged from itself alone. -/
theorem TlbEntry.retag_eq_iff {e : TlbEntry} (h : e.pte.getLsbD 4 = false) (a : Asn) (e' : TlbEntry) :
    e'.retag a = e ↔ e' = e := by
  unfold TlbEntry.retag
  split
  next hglobal =>
    constructor
    · rintro rfl; exact absurd hglobal (ne_true_of_eq_false h)
    · rintro rfl; exact absurd hglobal (ne_true_of_eq_false h)
  next => rfl

theorem setAsn_eq (side : Side) (a : Asn) (s : State π) :
    setAsn side a s = s.setTlb side
      { s.tlb side with slots := (s.tlb side).slots.map (Option.map (TlbEntry.retag a)), asn := a, mini := none } := by
  unfold setAsn
  dsimp only
  congr 3
  funext slot
  cases slot with
  | none => rfl
  | some e => exact (apply_ite some (e.pte.getLsbD 4 = true) { e with asn := a } e).symm

theorem invalidateSingle_eq (M : Setup π) (side : Side) (va : Word) (s : State π) :
    invalidateSingle M side va s = s.setTlb side
      { s.tlb side with
        slots := (s.tlb side).slots.map (Option.filter fun e =>
          !decide (e.asn = (s.tlb side).asn ∧ vpnOf M va &&& ~~~e.ghMask = e.tag))
        mini := none } := by
  unfold invalidateSingle
  dsimp only
  congr 3
  funext slot
  cases slot with
  | none => rfl
  | some e =>
    by_cases hit : e.asn = (s.tlb side).asn ∧ vpnOf M va &&& ~~~e.ghMask = e.tag <;>
      simp [TlbEntry.covers, Option.filter_some, hit]

theorem invalidateAll_keeping_global (side : Side) (s : State π) :
    invalidateAll side false s = s.setTlb side
      { s.tlb side with
        slots := (s.tlb side).slots.map (Option.filter fun e => e.pte.getLsbD 4), mini := none } := by
  unfold invalidateAll
  dsimp only
  congr 3
  funext slot
  cases slot with
  | none => rfl
  | some e => cases hglobal : e.pte.getLsbD 4 <;> simp only [pteGlobal, Option.filter_some, hglobal] <;> rfl

theorem invalidateAll_whole (side : Side) (s : State π) :
    invalidateAll side true s = s.setTlb side
      { s.tlb side with slots := List.replicate (s.tlb side).slots.length none, nlu := 0, mini := none } := by
  unfold invalidateAll
  dsimp only
  congr 2
  refine List.map_eq_replicate_iff.mpr fun slot _ => ?_
  cases slot <;> rfl

/-- What matches a page: the valid entries of the current ASN whose tag it has under their wildcards (R105). -/
theorem Tlb.mem_matching_iff (t : Tlb) (vpn : Vpn) (e : TlbEntry) :
    e ∈ t.matching vpn ↔ some e ∈ t.slots ∧ e.asn = t.asn ∧ e.covers vpn = true := by
  simp only [Tlb.matching, List.mem_filterMap]
  constructor
  · rintro ⟨slot, hmem, hslot⟩
    cases slot with
    | none => cases hslot
    | some e' =>
      simp only [Option.ite_none_right_eq_some, Bool.and_eq_true, beq_iff_eq, Option.some.injEq] at hslot
      obtain ⟨⟨hasn, hcovers⟩, rfl⟩ := hslot
      exact ⟨hmem, hasn, hcovers⟩
  · rintro ⟨hmem, hasn, hcovers⟩
    exact ⟨some e, hmem, by simp [hasn, hcovers]⟩

/-- A change of ASN keeps every entry that is not global, and makes none. -/
theorem some_mem_retagged_iff {e : TlbEntry} (h : e.pte.getLsbD 4 = false) (a : Asn) (slots : List (Option TlbEntry)) :
    some e ∈ slots.map (Option.map (TlbEntry.retag a)) ↔ some e ∈ slots := by
  simp [List.mem_map, Option.map_eq_some_iff, TlbEntry.retag_eq_iff h]

theorem mem_matching_setAsn_back_iff (side : Side) (asn : Asn) (s : State π) (vpn : Vpn) {e : TlbEntry}
    (h : e.pte.getLsbD 4 = false) :
    e ∈ ((setAsn side (s.tlb side).asn (setAsn side asn s)).tlb side).matching vpn ↔ e ∈ (s.tlb side).matching vpn := by
  simp only [setAsn_eq, State.setTlb_tlb_same, Tlb.mem_matching_iff, some_mem_retagged_iff h]

end TranslationTables

/-! ### The statements -/

/-- Settles O47, branch by branch of the translator. -/
theorem translationOrder : Obligations.TranslationOrder := by
  intro π M va acc m s high proper window side vpn
  have proper_iff : canonicalVa M va = true ↔ proper := canonicalVa_iff M va
  have window_iff : s.superpage acc.side = true ∧ inSuperpage M va = true ↔ window := by
    rw [State.superpage_side, inSuperpage_iff]
  have side_eq : acc.side = side := acc.side_eq
  refine ⟨fun hproper => ?_, fun hproper hwindow hm => ?_, fun hproper hwindow hm => ?_,
    fun hproper hwindow policy s' hmiss => ?_, fun hproper hwindow e s' hhit => ?_⟩
  · exact translate_of_not_canonical acc m s (Bool.eq_false_iff.mpr (mt proper_iff.mp hproper))
  · obtain ⟨henabled, hin⟩ := window_iff.mpr hwindow
    rw [translate_of_superpage m (proper_iff.mpr hproper) henabled hin, if_pos hm]
  · obtain ⟨henabled, hin⟩ := window_iff.mpr hwindow
    rw [translate_of_superpage m (proper_iff.mpr hproper) henabled hin, if_neg (not_not.mpr hm), superpagePa_eq]
  · rw [translate_of_table m (proper_iff.mpr hproper) (mt window_iff.mp hwindow)]
    rw [← side_eq] at policy hmiss
    exact translateTable_of_miss m policy hmiss
  · rw [translate_of_table m (proper_iff.mpr hproper) (mt window_iff.mp hwindow)]
    rw [← side_eq] at hhit ⊢
    rw [translateTable_of_hit m hhit, ← pteEnable_eq, ← pteFaultOn_eq]
    have used := useEntry_cases M va acc m e s'
    rw [physOf_eq] at used
    exact used

/-- Settles O49: the slot the entry goes to is the lowest that holds its tag, or the pointer's. -/
theorem tlbLoadReplacement : Obligations.TlbLoadReplacement := by
  intro π M side vpn p s t mask e holds
  have entry : pteEntry M (s.tlb side).asn vpn p = e := pteEntry_eq M _ vpn p
  have unheld (h : ∀ slot, ¬ holds slot) : t.slotOf (pteEntry M (s.tlb side).asn vpn p).tag = none :=
    Tlb.slotOf_eq_none (entry ▸ h)
  refine ⟨fun slot hslot lowest => ?_, fun hnone hnlu => ?_, fun hnone hnlu => ?_⟩
  · have found : t.slotOf (pteEntry M (s.tlb side).asn vpn p).tag = some slot :=
      Tlb.slotOf_eq_some (entry ▸ hslot) (entry ▸ lowest)
    rw [tlbLoad_of_slot found, entry]
  · rw [tlbLoad_of_no_slot (unheld hnone), if_pos hnlu, entry]
  · rw [tlbLoad_of_no_slot (unheld hnone), if_neg hnlu]

/-- Settles O50: each operation maps one function over the slots. -/
theorem tlbMaintenance : Obligations.TlbMaintenance := by
  intro π M side s t
  refine ⟨fun asn => ⟨_, setAsn_eq side asn s, fun j => List.getElem?_map⟩,
    fun va => ⟨_, invalidateSingle_eq M side va s, fun j => List.getElem?_map⟩,
    ⟨_, invalidateAll_keeping_global side s, fun j => List.getElem?_map⟩,
    invalidateAll_whole side s,
    fun asn vpn e hlocal => mem_matching_setAsn_back_iff side asn s vpn hlocal⟩

end Sys2Proof.Machine

/-! ## Proofs of the statements about encoding and fetching (30_encoding R131, R155) -/

namespace Sys2Proof.Machine

section Fetch

variable {π : Type} {M : Setup π}

/-! ### The fetch (R131) -/

theorem fetchAddr_firmware {s : State π} (firmware : s.palMode = true) :
    fetchAddr M s = .ok (field s.pc 0 M.paBits) s := by
  simp [fetchAddr, firmware]

theorem fetchAddr_outside {s : State π} (outside : s.palMode = false) :
    fetchAddr M s = translate M s.pc .execute s.cm s := by
  simp [fetchAddr, outside]

/-- The word fetched from RAM, little-endian (R70, R131). -/
theorem fetchWord_ram {s s' : State π} {pa : PhysAddr} (addr : fetchAddr M s = .ok pa s')
    (ram : pa.toNat < M.memSize) :
    fetchWord M s = .ok (BitVec.ofNat 32 (natOfBytes (Memory.readBytes s'.mem pa.toNat 4))) s' := by
  have value : leValue (Memory.readBytes s'.mem pa.toNat 4) =
      BitVec.ofNat 64 (natOfBytes (Memory.readBytes s'.mem pa.toNat 4)) := leValue_eq _ (by simp)
  rw [fetchWord, addr, andThen_ok, memRead_ram ram, andThen_ok, Width.bytes, value,
    BitVec.setWidth_ofNat_of_le (by decide)]

theorem fetchWord_raised {s s' : State π} {k : FaultKind} {va : Word} {m : Mode}
    (addr : fetchAddr M s = .raised k va m s') : fetchWord M s = .raised k va m s' := by
  rw [fetchWord, addr, andThen_raised]

/-- Past its address the fetch raises nothing: a physical read answers or stops (R77). -/
theorem fetchWord_ne_raised {s s' : State π} {pa : PhysAddr} (addr : fetchAddr M s = .ok pa s') (k : FaultKind)
    (va : Word) (m : Mode) (t : State π) : fetchWord M s ≠ .raised k va m t := by
  rw [fetchWord, addr, andThen_ok]
  rcases memRead_cases M pa .long s' with ⟨v, log, answers, draws, read⟩ | read <;> rw [read]
  · rw [andThen_ok]; exact fun h => by cases h
  · rw [andThen_stopped]; exact fun h => by cases h

/-! ### The kinds of fault a translation raises (R100, R108) -/

theorem checkPte_kind {pte : BitVec 16} {acc : Access} {m : Mode} {k : FaultKind} (h : checkPte pte acc m = some k) :
    k ∈ [FaultKind.faultOnReference acc, .accessViolation acc, .translationNotValid acc] := by
  unfold checkPte at h
  split at h
  · cases h; simp
  · split at h
    · cases h; simp
    · split at h
      · cases h; simp
      · cases h

/-- The kinds a translation raises on a side whose miss policy is FAULT: those of the access's own variant. -/
theorem translate_raised_kind {va va' : Word} {acc : Access} {m m' : Mode} {s s' : State π} {k : FaultKind}
    (policy : M.personality.missPolicy acc.side = .fault) (h : translate M va acc m s = .raised k va' m' s') :
    k ∈ [FaultKind.tlbMiss acc, .faultOnReference acc, .accessViolation acc, .translationNotValid acc,
      .badVirtualAddress acc] := by
  cases canonical : canonicalVa M va with
  | false => rw [translate_of_not_canonical acc m s canonical] at h; cases h; simp
  | true =>
    by_cases window : s.superpage acc.side = true ∧ inSuperpage M va = true
    · rw [translate_of_superpage m canonical window.1 window.2] at h
      split at h
      · cases h; simp
      · cases h
    · rw [translate_of_table m canonical window] at h
      rcases found : s.lookup acc.side (vpnOf M va) with ⟨_ | e, t⟩
      · rw [translateTable_of_miss m policy found] at h
        cases h; simp
      · rw [translateTable_of_hit m found] at h
        cases check : checkPte e.pte acc m with
        | some k' =>
          rw [useEntry_of_fault t check] at h
          cases h
          exact List.mem_cons_of_mem _ (List.mem_append_left [FaultKind.badVirtualAddress acc] (checkPte_kind check))
        | none => rw [useEntry_of_pass t check] at h; cases h

end Fetch

/-- Settles O6, by the address the fetch uses in and outside firmware mode. -/
theorem fetchTranslatesOutsideFirmware : Obligations.FetchTranslatesOutsideFirmware := by
  intro s
  refine ⟨fun firmware ram => ?_, fun firmware k va m s' => fetchWord_ne_raised (fetchAddr_firmware firmware) k va m s',
    fun outside pa s' addr ram => ?_, fun outside k va m s' addr => ?_⟩
  · have place : (field s.pc 0 nativeSetup.paBits).toNat = s.pc.toNat % 2 ^ 44 := by
      rw [field_toNat, pow_zero, Nat.div_one]; rfl
    have word := fetchWord_ram (fetchAddr_firmware firmware) (place ▸ ram)
    rwa [place] at word
  · have kept : s'.mem = s.mem := by
      obtain ⟨d, mini, rfl⟩ := translate_ok_state (native_missPolicy rfl _) addr
      rfl
    have word := fetchWord_ram ((fetchAddr_outside outside).trans addr) ram
    rwa [kept] at word
  · obtain ⟨va_eq, m_eq, -⟩ := translate_raised_state (native_missPolicy rfl _) addr
    exact ⟨fetchWord_raised ((fetchAddr_outside outside).trans addr), va_eq, m_eq,
      translate_raised_kind (native_missPolicy rfl _) addr⟩

/-! ### How a reserved instruction is taken (R155, R380) -/

/-- Running the word raises reserved-instruction, with fault address 0 and the current mode (R155). -/
def RunsReserved (w : BitVec 32) (s : State) : Prop :=
  runWord nativeSetup w s = .next (nativeException .reservedInstruction 0 s.cm s.pc s)

theorem runsReserved_of_error {w : BitVec 32} {s : State} {e : DecodeError} (h : decode w = .error e) :
    RunsReserved w s := by
  unfold RunsReserved runWord
  rw [h]
  exact finish_raise rfl _ _ s

theorem runsReserved_of_ok {w : BitVec 32} {s : State} {i : Instr} (h : decode w = .ok i) (reserved : RaisesReserved i s) :
    RunsReserved w s := by
  unfold RunsReserved runWord
  rw [h]
  exact (exec_eq_execUnder i s).symm.trans reserved

theorem raisesReserved_of_raise {i : Instr} {s : State}
    (shape : exec i s = finish nativeSetup (raise .reservedInstruction 0 s)) : RaisesReserved i s :=
  shape.trans (finish_raise rfl _ _ s)

/-- The legality test comes before everything else a privileged opcode does (R380). -/
theorem raisesReserved_of_denied {i : Instr} {s : State} {f : Unit → State → Result NativeState Unit}
    (shape : exec i s = finish nativeSetup ((requirePrivileged s).andThen f)) (denied : ¬ (s.palMode = true ∨ s.cm = 0)) :
    RaisesReserved i s :=
  raisesReserved_of_raise (by rw [shape, requirePrivileged_denied f denied])

/-- An opcode that is reserved where it is legal is reserved everywhere. -/
theorem raisesReserved_of_allowed {i : Instr} {s : State} {f : Unit → State → Result NativeState Unit}
    (shape : exec i s = finish nativeSetup ((requirePrivileged s).andThen f))
    (reserved : f () s = raise .reservedInstruction 0 s) : RaisesReserved i s := by
  by_cases legal : s.palMode = true ∨ s.cm = 0
  · exact raisesReserved_of_raise (by rw [shape, requirePrivileged_allowed f legal, reserved])
  · exact raisesReserved_of_denied shape legal

theorem requireMbz_set {π α : Type} {q : HwQualifiers} {s : State π} (f : Unit → State π → Result π α)
    (h : q.mbz13 = true ∨ q.mbz11 = true) : (requireMbz q s).andThen f = raise .reservedInstruction 0 s := by
  have set : q.mbzClear = false := by
    rcases h with h | h <;> simp [HwQualifiers.mbzClear, h]
  simp [requireMbz, set, raise]

/-! ### The instructions that are reserved -/

/-- The seven reserved opcodes (R390). -/
def reservedOpcodes : List Instr := [.opc01, .opc02, .opc03, .opc04, .opc05, .opc06, .opc07]

theorem reservedOpcodes_raise : ∀ i ∈ reservedOpcodes, ∀ s, RaisesReserved i s := by
  simp only [reservedOpcodes, List.forall_mem_cons, List.not_mem_nil, false_implies, implies_true, and_true]
  exact ⟨fun _ => rfl, fun _ => rfl, fun _ => rfl, fun _ => rfl, fun _ => rfl, fun _ => rfl, fun _ => rfl⟩

theorem callPal_mbz_reserved {mbz : BitVec 18} (cls : Bool) (n : BitVec 7) (s : State) (h : mbz ≠ 0) :
    RaisesReserved (.callPal mbz cls n) s :=
  raisesReserved_of_raise (if_pos h)

/-- `CALL_PAL` of the privileged class outside kernel and firmware mode (R381). -/
theorem callPal_denied_reserved (mbz : BitVec 18) (n : BitVec 7) {s : State} (mode : s.palMode = false) (user : s.cm ≠ 0) :
    RaisesReserved (.callPal mbz false n) s := by
  by_cases h : mbz = 0
  · have outside_kernel : ¬ s.cm = 0#2 := user
    have denied : (!false && !s.privileged) = true := by simp [State.privileged, mode, outside_kernel]
    exact raisesReserved_of_raise ((if_neg (not_not.mpr h)).trans (if_pos denied))
  · exact callPal_mbz_reserved false n s h

theorem hwRei_mbz_reserved {mbz : BitVec 15} (rs : Bool) (s : State) (h : mbz ≠ 0) :
    RaisesReserved (.hwRei rs mbz) s :=
  raisesReserved_of_allowed rfl (if_pos h)

/-- An operation the floating-point collaborator reports as reserved (R351). -/
theorem fpOperate_reserved {op : BitVec 6} {fa fb fc : Reg} {fn : BitVec 11} {s : State} (enabled : s.fpen = true)
    (h : Config.fpOperate op fn (s.readFp fa) (s.readFp fb) s.fpcr = .reserved) :
    fpOperate nativeSetup op fa fb fc fn s = finish nativeSetup (raise .reservedInstruction 0 s) := by
  have answer : nativeSetup.fp op fn (s.readFp fa) (s.readFp fb) s.fpcr = .reserved := h
  rw [fpOperate, requireFp_enabled _ enabled, answer, applyFp]

/-! ### What the words of an opcode decode to -/

theorem decode_of_number {w : BitVec 32} {op : Nat} (h : (w.extractLsb' 26 6).toNat = op) : decode w = decodeMajor op w := by
  rw [decode, fieldOp, h]

theorem decodeMajor_reserved {op : Nat} (low : 1 ≤ op) (high : op ≤ 7) (w : BitVec 32) :
    ∃ i ∈ reservedOpcodes, decodeMajor op w = .ok i := by
  interval_cases op <;> exact ⟨_, by decide, rfl⟩

theorem decodeMajor_fpOperate {op : BitVec 6} (low : 0x14 ≤ op.toNat) (high : op.toNat ≤ 0x17) (w : BitVec 32) :
    ∃ i, decodeMajor op.toNat w = .ok i ∧
      ∀ s, exec i s = fpOperate nativeSetup op (fieldRa w) (fieldRb w) (fieldRc w) (fieldFn11 w) s := by
  obtain rfl | rfl | rfl | rfl : op = 0x14 ∨ op = 0x15 ∨ op = 0x16 ∨ op = 0x17 := by bv_omega
  all_goals exact ⟨_, rfl, fun _ => rfl⟩

/-- The five hardware firmware opcodes begin with the legality test (R380). -/
theorem decodeMajor_hardware {op : Nat} (h : op ∈ [0x19, 0x1B, 0x1D, 0x1E, 0x1F]) (w : BitVec 32) :
    ∃ i f, decodeMajor op w = .ok i ∧ ∀ s, exec i s = finish nativeSetup ((requirePrivileged s).andThen f) := by
  simp only [List.mem_cons, List.not_mem_nil, or_false] at h
  rcases h with rfl | rfl | rfl | rfl | rfl
  all_goals exact ⟨_, _, rfl, fun _ => rfl⟩

/-- `HW_LD` and `HW_ST` go on with the must-be-zero test of their qualifiers (R382). -/
theorem decodeMajor_hwMemory {op : Nat} (h : op ∈ [0x1B, 0x1F]) (w : BitVec 32) :
    ∃ i f, decodeMajor op w = .ok i ∧ ∀ s, exec i s = finish nativeSetup
      ((requirePrivileged s).andThen fun _ s1 => (requireMbz (fieldQualifiers w) s1).andThen f) := by
  simp only [List.mem_cons, List.not_mem_nil, or_false] at h
  rcases h with rfl | rfl
  all_goals exact ⟨_, _, rfl, fun _ => rfl⟩

/-! ### Function codes that no table lists (R143 to R147) -/

/-- A function table of an operate group has no row outside the listed codes. -/
def ListsOnly (fns : List Nat) (table : Nat → Reg → Operand → Reg → Option Instr) : Prop :=
  ∀ fn ∉ fns, ∀ ra b rc, table fn ra b rc = none

theorem decodeArith_listsOnly : ListsOnly [0x00, 0x02, 0x09, 0x0B, 0x0F, 0x12, 0x1B, 0x1D, 0x20, 0x22, 0x29, 0x2B, 0x2D,
    0x32, 0x3B, 0x3D, 0x40, 0x49, 0x4D, 0x60, 0x69, 0x6D] decodeArith := by
  intro fn h ra b rc
  simp_all [decodeArith]

theorem decodeLogical_listsOnly : ListsOnly [0x00, 0x08, 0x14, 0x16, 0x20, 0x24, 0x26, 0x28, 0x40, 0x44, 0x46, 0x48, 0x61,
    0x64, 0x66, 0x6C] decodeLogical := by
  intro fn h ra b rc
  simp_all [decodeLogical]

theorem decodeShift_listsOnly : ListsOnly [0x02, 0x06, 0x0B, 0x12, 0x16, 0x1B, 0x22, 0x26, 0x2B, 0x30, 0x31, 0x32, 0x34,
    0x36, 0x39, 0x3B, 0x3C, 0x52, 0x57, 0x5A, 0x62, 0x67, 0x6A, 0x72, 0x77, 0x7A] decodeShift := by
  intro fn h ra b rc
  simp_all [decodeShift]

theorem decodeMultiply_listsOnly : ListsOnly [0x00, 0x20, 0x30, 0x40, 0x60] decodeMultiply := by
  intro fn h ra b rc
  simp_all [decodeMultiply]

theorem decodeSignExtend_listsOnly : ListsOnly [0x00, 0x01] decodeSignExtend := by
  intro fn h ra b rc
  simp_all [decodeSignExtend]

theorem decodeMisc_unlisted {fn : Nat} (h : fn ∉ [0x0000, 0x0400, 0x4000, 0x4400, 0x8000, 0xA000, 0xC000, 0xE000, 0xE800,
    0xF000, 0xF800]) (ra rb : Reg) : decodeMisc fn ra rb = none := by
  simp only [List.mem_cons, List.not_mem_nil, or_false, not_or] at h
  simp [decodeMisc, h]

/-- A word of an operate group whose function code the group's table does not list. -/
theorem runsReserved_of_unlisted {w : BitVec 32} {op : Nat} {fns : List Nat}
    {table : Nat → Reg → Operand → Reg → Option Instr} (lists : ListsOnly fns table)
    (major : decodeMajor op w = decodeOperate table w) (opcode : (w.extractLsb' 26 6).toNat = op)
    (unlisted : (w.extractLsb' 5 7).toNat ∉ fns) (s : State) : RunsReserved w s := by
  have row : table (fieldFn7 w).toNat (fieldRa w) (fieldOperand w) (fieldRc w) = none := lists _ unlisted _ _ _
  refine runsReserved_of_error (e := .unlistedFunction (fieldOp w) ((fieldFn7 w).setWidth 16)) ?_
  rw [decode_of_number opcode, major, decodeOperate, row, listed]

theorem runsReserved_of_misc_unlisted {w : BitVec 32} (opcode : (w.extractLsb' 26 6).toNat = 0x18)
    (unlisted : (w.extractLsb' 0 16).toNat ∉ [0x0000, 0x0400, 0x4000, 0x4400, 0x8000, 0xA000, 0xC000, 0xE000, 0xE800,
      0xF000, 0xF800]) (s : State) : RunsReserved w s := by
  have major : decodeMajor 0x18 w =
      listed w (fieldDisp16 w) (decodeMisc (fieldDisp16 w).toNat (fieldRa w) (fieldRb w)) := rfl
  have row : decodeMisc (fieldDisp16 w).toNat (fieldRa w) (fieldRb w) = none := decodeMisc_unlisted unlisted _ _
  refine runsReserved_of_error (e := .unlistedFunction (fieldOp w) (fieldDisp16 w)) ?_
  rw [decode_of_number opcode, major, row, listed]

/-! ### The words that are reserved by what they decode to -/

theorem runsReserved_of_reserved_opcode {w : BitVec 32} (low : 1 ≤ (w.extractLsb' 26 6).toNat)
    (high : (w.extractLsb' 26 6).toNat ≤ 7) (s : State) : RunsReserved w s := by
  obtain ⟨i, reserved, major⟩ := decodeMajor_reserved low high w
  exact runsReserved_of_ok ((decode_of_number rfl).trans major) (reservedOpcodes_raise i reserved s)

theorem runsReserved_of_fp_reserved {w : BitVec 32} {s : State} (low : 0x14 ≤ (w.extractLsb' 26 6).toNat)
    (high : (w.extractLsb' 26 6).toNat ≤ 0x17) (enabled : s.fpen = true)
    (answer : Config.fpOperate (w.extractLsb' 26 6) (w.extractLsb' 5 11) (s.readFp (w.extractLsb' 21 5))
      (s.readFp (w.extractLsb' 16 5)) s.fpcr = .reserved) : RunsReserved w s := by
  obtain ⟨i, major, shape⟩ := decodeMajor_fpOperate low high w
  have reserved : RaisesReserved i s := raisesReserved_of_raise ((shape s).trans (fpOperate_reserved enabled answer))
  exact runsReserved_of_ok ((decode_of_number rfl).trans major) reserved

theorem runsReserved_of_hardware_denied {w : BitVec 32} {s : State}
    (opcode : (w.extractLsb' 26 6).toNat ∈ [0x19, 0x1B, 0x1D, 0x1E, 0x1F]) (mode : s.palMode = false) (user : s.cm ≠ 0) :
    RunsReserved w s := by
  obtain ⟨i, f, major, shape⟩ := decodeMajor_hardware opcode w
  have denied : ¬ (s.palMode = true ∨ s.cm = 0) := not_or.mpr ⟨Bool.eq_false_iff.mp mode, user⟩
  exact runsReserved_of_ok ((decode_of_number rfl).trans major) (raisesReserved_of_denied (shape s) denied)

theorem runsReserved_of_qualifier_mbz {w : BitVec 32} (opcode : (w.extractLsb' 26 6).toNat ∈ [0x1B, 0x1F])
    (set : w.getLsbD 13 = true ∨ w.getLsbD 11 = true) (s : State) : RunsReserved w s := by
  obtain ⟨i, f, major, shape⟩ := decodeMajor_hwMemory opcode w
  exact runsReserved_of_ok ((decode_of_number rfl).trans major) (raisesReserved_of_allowed (shape s) (requireMbz_set f set))

/-- Settles O3: each encoding is rejected by the decoder, or decodes to an instruction whose legality test fails. -/
theorem reservedEncodings : Obligations.ReservedEncodings := by
  refine ⟨?_, fun s => ?_, rfl⟩
  · intro w s op fn user encoding
    show RunsReserved w s
    rcases encoding with ⟨low, high⟩ | ⟨opcode, unlisted⟩ | ⟨opcode, unlisted⟩ | ⟨opcode, unlisted⟩ | ⟨opcode, unlisted⟩ |
      ⟨opcode, unlisted⟩ | ⟨opcode, unlisted⟩ | ⟨low, high, enabled, answer⟩ | ⟨opcode, mbz⟩ |
      ⟨opcode, privileged, mode, user⟩ | ⟨opcode, mode, user⟩ | ⟨opcode, mbz⟩ | ⟨opcode, mbz⟩
    · exact runsReserved_of_reserved_opcode low high s
    · exact runsReserved_of_unlisted decodeArith_listsOnly rfl opcode unlisted s
    · exact runsReserved_of_unlisted decodeLogical_listsOnly rfl opcode unlisted s
    · exact runsReserved_of_unlisted decodeShift_listsOnly rfl opcode unlisted s
    · exact runsReserved_of_unlisted decodeMultiply_listsOnly rfl opcode unlisted s
    · exact runsReserved_of_unlisted decodeSignExtend_listsOnly rfl opcode unlisted s
    · exact runsReserved_of_misc_unlisted opcode unlisted s
    · exact runsReserved_of_fp_reserved low high enabled answer
    · exact runsReserved_of_ok (decode_of_number opcode) (callPal_mbz_reserved _ _ s mbz)
    · have decoded : decode w = .ok (.callPal (w.extractLsb' 8 18) (w.getLsbD 7) (w.extractLsb' 0 7)) :=
        decode_of_number opcode
      rw [privileged] at decoded
      exact runsReserved_of_ok decoded (callPal_denied_reserved _ _ mode user)
    · exact runsReserved_of_hardware_denied opcode mode user
    · exact runsReserved_of_qualifier_mbz opcode mbz s
    · exact runsReserved_of_ok (decode_of_number opcode) (hwRei_mbz_reserved _ s mbz)
  · simpa [reservedOpcodes] using fun i hi => reservedOpcodes_raise i hi s

end Sys2Proof.Machine


/-! ## Proofs of the statements about loads and stores (40_memory_format R170 to R186) -/

namespace Sys2Proof.Machine

section MemoryFormat

variable {π : Type}

/-! ### The address and the value of an access -/

/-- Sign-extending an offset and adding it is adding it as an integer, modulo 2^64 (R9). -/
theorem add_signExtend_eq_ofInt {n : Nat} (x : Word) (d : BitVec n) :
    x + d.signExtend 64 = BitVec.ofInt 64 (x.toInt + d.toInt) := by
  rw [BitVec.ofInt_add, BitVec.ofInt_toInt, BitVec.signExtend]

/-- `effAddr` as integer arithmetic (R170). -/
theorem effAddr_eq_ofInt (s : State π) (rb : Reg) (disp : BitVec 16) :
    effAddr s rb disp = BitVec.ofInt 64 ((s.readInt rb).toInt + disp.toInt) :=
  add_signExtend_eq_ofInt (s.readInt rb) disp

/-- Shifting a displacement left by 16 scales it by 65536 (R172). -/
theorem signExtend_shiftLeft_16 (disp : BitVec 16) :
    disp.signExtend 64 <<< 16 = BitVec.ofInt 64 (65536 * disp.toInt) := by
  rw [BitVec.ofInt_mul, BitVec.shiftLeft_eq_mul_twoPow, BitVec.mul_comm, BitVec.signExtend]
  rfl

/-- The long of a number zero-extended to a register, sign-extended (R9). -/
theorem sext_ofNat (n : Nat) : sext 32 (BitVec.ofNat 64 n) = longExtended n := by
  have long : (BitVec.ofNat 64 n).setWidth 32 = BitVec.ofInt 32 n := by
    rw [BitVec.ofInt_natCast, BitVec.setWidth_ofNat_of_le (by omega)]
  rw [sext, long, longExtended]

/-! ### Updates of `lock_flag` -/

/-- `lock_flag` and the integer file are written independently. -/
theorem writeInt_with_lockFlag (s : State π) (r : Reg) (v : Word) (flag : Bool) :
    { s.writeInt r v with lockFlag := flag } = ({ s with lockFlag := flag } : State π).writeInt r v := by
  unfold State.writeInt
  split <;> rfl

/-- What a store-conditional ends in: `lock_flag` cleared, 1 or 0 in `Ra`, `PC` advanced (R91). -/
theorem concludeStore_eq (s : State π) (ra : Reg) (success : Bool) :
    s.concludeStore ra success =
      (({ s with lockFlag := false } : State π).writeInt ra (boolWord success)).advance := by
  rw [State.concludeStore, writeInt_with_lockFlag]

/-! ### Aligned accesses followed by an end that completes -/

theorem andThen_assoc {α β γ : Type} (r : Result π α) (f : α → State π → Result π β) (g : β → State π → Result π γ) :
    (r.andThen f).andThen g = r.andThen fun a s => (f a s).andThen g := by
  cases r <;> rfl

/-- An instruction that reads at a virtual address and then completes by `fin` meets the read rule (R170). -/
theorem virtualReadRule_of_alignedRead {i : Instr} {s : State} {ea : Word} {w : Width} {fin : Word → State → State}
    {done : State → Nat → State → Prop}
    (shape : exec i s =
      finish nativeSetup ((alignedRead nativeSetup ea w s).andThen fun v s' => .ok () (fin v s')))
    (clear : s.trapSumm = 0) (keeps : ∀ v s', (fin v s').trapSumm = s'.trapSumm)
    (ends : ∀ n s', done s' n (fin (BitVec.ofNat 64 n) s')) : VirtualReadRule i s ea w done := by
  simp only [alignedRead, vread, andThen_assoc] at shape
  exact read_shape (place := fun s1 => translate nativeSetup ea .read s1.cm s1) shape
    (fun _ _ => translate_ok_mem) clear fun n s' _ => ⟨keeps _ s', fun _ => ends n s'⟩

/-- An instruction that writes at a virtual address and then completes by `fin` meets the write rule (R170). -/
theorem virtualWriteRule_of_alignedWrite {i : Instr} {s : State} {ea : Word} {w : Width} {v : Word} {fin : State → State}
    {done : State → State → Prop}
    (shape : exec i s =
      finish nativeSetup ((alignedWrite nativeSetup ea w v s).andThen fun _ s' => .ok () (fin s')))
    (clear : s.trapSumm = 0) (wf : Memory.wf s.mem = true) (keepsTraps : ∀ s', (fin s').trapSumm = s'.trapSumm)
    (keepsMem : ∀ s', (fin s').mem = s'.mem) (ends : ∀ s', done s' (fin s')) : VirtualWriteRule i s ea w v done := by
  simp only [alignedWrite, vwrite, andThen_assoc] at shape
  exact write_shape (place := fun s1 => translate nativeSetup ea .write s1.cm s1) shape
    (fun _ _ => translate_ok_mem) clear wf fun s' => ⟨keepsTraps s', keepsMem s', ends s'⟩

/-! ### One lemma per shape of instruction -/

variable {op : BitVec 6} {mk : Reg → Reg → BitVec 16 → Instr} {w : Width}

/-- A row of the major opcode table with the memory format's operands has the memory format. -/
theorem memFormat_of_major
    (major : ∀ word, decodeMajor op.toNat word = .ok (mk (fieldRa word) (fieldRb word) (fieldDisp16 word))) :
    MemFormat op mk :=
  hasOpcode_of_major major

/-- An instruction whose meaning is `loadInt` is an integer load. -/
theorem loadRule_of_loadInt {addr extend : Word → Word} {value : Nat → Word} (format : MemFormat op mk)
    (meaning : ∀ ra rb disp s, exec (mk ra rb disp) s =
      finish nativeSetup (loadInt nativeSetup w extend ra (addr (effAddr s rb disp)) s))
    (extends_to : ∀ n, extend (BitVec.ofNat 64 n) = value n) : LoadRule op mk w addr value := by
  refine ⟨format, fun ra rb disp s clear => ?_⟩
  refine virtualReadRule_of_alignedRead (fin := fun v s' => (s'.writeInt ra (extend v)).advance)
    (meaning ra rb disp s) clear (fun v s' => by simp) fun n s' => ?_
  rw [← extends_to]
  exact writesInt_advance s' ra _

/-- An instruction whose meaning is `loadLocked` is a load-locked. -/
theorem loadLockedRule_of_loadLocked {extend : Word → Word} {value : Nat → Word} (format : MemFormat op mk)
    (meaning : ∀ ra rb disp s, exec (mk ra rb disp) s =
      finish nativeSetup (loadLocked nativeSetup w extend ra (effAddr s rb disp) s))
    (extends_to : ∀ n, extend (BitVec.ofNat 64 n) = value n) : LoadLockedRule op mk w value := by
  refine ⟨format, fun ra rb disp s clear => ?_⟩
  refine virtualReadRule_of_alignedRead
    (fin := fun v s' => ({ s'.writeInt ra (extend v) with lockFlag := true } : State).advance)
    (meaning ra rb disp s) clear (fun v s' => by simp) fun n s' => ?_
  rw [← extends_to, writeInt_with_lockFlag]
  exact writesInt_advance { s' with lockFlag := true } ra _

/-- An instruction whose meaning is `storeInt` is an integer store. -/
theorem storeRule_of_storeInt {addr : Word → Word} (format : MemFormat op mk)
    (meaning : ∀ ra rb disp s, exec (mk ra rb disp) s =
      finish nativeSetup (storeInt nativeSetup w ra (addr (effAddr s rb disp)) s)) : StoreRule op mk w addr :=
  ⟨format, fun ra rb disp s clear wf => virtualWriteRule_of_alignedWrite (fin := State.advance)
    (meaning ra rb disp s) clear wf (fun _ => rfl) (fun _ => rfl) onlyAdvances_advance⟩

/-- `storeConditional` with `lock_flag` set is an aligned store that concludes with success (R91). -/
theorem storeConditional_locked {ra : Reg} {ea : Word} {s : State π} (M : Setup π) (locked : s.lockFlag = true) :
    storeConditional M w ra ea s =
      (alignedWrite M ea w (s.readInt ra) s).andThen fun _ s' => .ok () (s'.concludeStore ra true) :=
  if_pos locked

/-- `storeConditional` with `lock_flag` clear writes 0 to `Ra` and nothing else (R91). -/
theorem storeConditional_unlocked {ra : Reg} {ea : Word} {s : State π} (M : Setup π) (unlocked : s.lockFlag = false) :
    storeConditional M w ra ea s = .ok () (s.writeInt ra 0).advance := by
  have same : ({ s with lockFlag := false } : State π) = s := by rw [← unlocked]
  rw [storeConditional, if_neg (Bool.eq_false_iff.mp unlocked), concludeStore_eq, same]
  rfl

/-- An instruction whose meaning is `storeConditional` is a store-conditional. -/
theorem storeConditionalRule_of_storeConditional (format : MemFormat op mk)
    (meaning : ∀ ra rb disp s, exec (mk ra rb disp) s =
      finish nativeSetup (storeConditional nativeSetup w ra (effAddr s rb disp) s)) :
    StoreConditionalRule op mk w := by
  refine ⟨format, fun ra rb disp s clear wf => ⟨fun locked => ?_, fun unlocked => ?_⟩⟩
  · have shape := meaning ra rb disp s
    rw [storeConditional_locked nativeSetup locked] at shape
    refine virtualWriteRule_of_alignedWrite (fin := fun s' => s'.concludeStore ra true) shape clear wf
      (fun s' => by simp [concludeStore_eq]) (fun s' => by simp [concludeStore_eq]) fun s' => ?_
    rw [concludeStore_eq]
    exact writesInt_advance { s' with lockFlag := false } ra 1
  · have ends := meaning ra rb disp s
    rw [storeConditional_unlocked nativeSetup unlocked] at ends
    exact ⟨_, ends.trans (finish_ok (by simpa using clear)), writesInt_advance s ra 0⟩

end MemoryFormat

/-! ### The statements -/

/-- Settles O29: each load is `loadInt` at its width, with its address and its extension. -/
theorem integerLoads : Obligations.IntegerLoads :=
  ⟨loadRule_of_loadInt (memFormat_of_major fun _ => rfl) (fun _ _ _ _ => rfl) fun _ => rfl,
    loadRule_of_loadInt (memFormat_of_major fun _ => rfl) (fun _ _ _ _ => rfl) fun _ => rfl,
    loadRule_of_loadInt (memFormat_of_major fun _ => rfl) (fun _ _ _ _ => rfl) sext_ofNat,
    loadRule_of_loadInt (memFormat_of_major fun _ => rfl) (fun _ _ _ _ => rfl) fun _ => rfl,
    loadRule_of_loadInt (memFormat_of_major fun _ => rfl) (fun _ _ _ _ => rfl) fun _ => rfl⟩

/-- Settles O30: both are `loadLocked`, which sets `lock_flag` only after its read. -/
theorem loadsLocked : Obligations.LoadsLocked :=
  ⟨loadLockedRule_of_loadLocked (memFormat_of_major fun _ => rfl) (fun _ _ _ _ => rfl) sext_ofNat,
    loadLockedRule_of_loadLocked (memFormat_of_major fun _ => rfl) (fun _ _ _ _ => rfl) fun _ => rfl⟩

/-- Settles O31: each store is `storeInt` at its width, with its address. -/
theorem integerStores : Obligations.IntegerStores :=
  ⟨storeRule_of_storeInt (memFormat_of_major fun _ => rfl) fun _ _ _ _ => rfl,
    storeRule_of_storeInt (memFormat_of_major fun _ => rfl) fun _ _ _ _ => rfl,
    storeRule_of_storeInt (memFormat_of_major fun _ => rfl) fun _ _ _ _ => rfl,
    storeRule_of_storeInt (memFormat_of_major fun _ => rfl) fun _ _ _ _ => rfl,
    storeRule_of_storeInt (memFormat_of_major fun _ => rfl) fun _ _ _ _ => rfl⟩

/-- Settles O32: both are `storeConditional`, by the two values of `lock_flag`. -/
theorem storesConditional : Obligations.StoresConditional :=
  ⟨storeConditionalRule_of_storeConditional (memFormat_of_major fun _ => rfl) fun _ _ _ _ => rfl,
    storeConditionalRule_of_storeConditional (memFormat_of_major fun _ => rfl) fun _ _ _ _ => rfl⟩

/-- Settles O28: the sum each instruction writes, as integer arithmetic. -/
theorem loadAddress : Obligations.LoadAddress := by
  refine ⟨memFormat_of_major fun _ => rfl, memFormat_of_major fun _ => rfl, fun ra rb disp s clear => ⟨?_, ?_⟩⟩
  · rw [← effAddr_eq_ofInt]
    exact complete_writeInt s ra (effAddr s rb disp) clear
  · rw [BitVec.ofInt_add, BitVec.ofInt_toInt, ← signExtend_shiftLeft_16]
    exact complete_writeInt s ra (s.readInt rb + disp.signExtend 64 <<< 16) clear

end Sys2Proof.Machine

/-! ## Proofs of the statements about integer arithmetic (41_integer_arith R203 to R230) -/

namespace Sys2Proof.Machine

section IntegerArithmetic

/-! ### Word arithmetic as integer arithmetic -/

theorem ofInt_sub (w : Nat) (a b : Int) : BitVec.ofInt w (a - b) = BitVec.ofInt w a - BitVec.ofInt w b := by
  rw [Int.sub_eq_add_neg, BitVec.ofInt_add, BitVec.ofInt_neg, BitVec.sub_eq_add_neg]

theorem add_eq_ofInt (x y : Word) : x + y = BitVec.ofInt 64 (x.toInt + y.toInt) := by
  rw [BitVec.ofInt_add, BitVec.ofInt_toInt, BitVec.ofInt_toInt]

theorem sub_eq_ofInt (x y : Word) : x - y = BitVec.ofInt 64 (x.toInt - y.toInt) := by
  rw [ofInt_sub, BitVec.ofInt_toInt, BitVec.ofInt_toInt]

/-- The product modulo 2^64, from the unsigned readings of its factors (R227). -/
theorem mul_eq_ofNat (x y : Word) : x * y = BitVec.ofNat 64 (x.toNat * y.toNat) := by
  rw [BitVec.ofNat_mul, BitVec.ofNat_toNat, BitVec.ofNat_toNat, BitVec.setWidth_eq, BitVec.setWidth_eq]

/-- The shift of the S4 and S8 forms multiplies by 4 or 8, modulo 2^64 (R204, R205). -/
theorem scaled_eq_ofInt (k : Nat) (x : Word) : scaled k x = BitVec.ofInt 64 (2 ^ k * x.toInt) := by
  have power : BitVec.ofInt 64 (2 ^ k) = BitVec.twoPow 64 k := by
    have cast : (2 : Int) ^ k = (2 ^ k : Nat) := (Nat.cast_pow 2 k).symm
    apply BitVec.eq_of_toNat_eq
    rw [cast, BitVec.ofInt_natCast, BitVec.toNat_ofNat, BitVec.toNat_twoPow]
  rw [scaled, BitVec.shiftLeft_eq_mul_twoPow, BitVec.ofInt_mul, BitVec.ofInt_toInt, power, BitVec.mul_comm]

theorem scaled_add_eq_ofInt (k : Nat) (x y : Word) : scaled k x + y = BitVec.ofInt 64 (2 ^ k * x.toInt + y.toInt) := by
  rw [BitVec.ofInt_add, ← scaled_eq_ofInt, BitVec.ofInt_toInt]

theorem scaled_sub_eq_ofInt (k : Nat) (x y : Word) : scaled k x - y = BitVec.ofInt 64 (2 ^ k * x.toInt - y.toInt) := by
  rw [ofInt_sub, ← scaled_eq_ofInt, BitVec.ofInt_toInt]

/-! ### The low long, sign-extended -/

theorem setWidth_ofInt_64_32 (n : Int) : (BitVec.ofInt 64 n).setWidth 32 = BitVec.ofInt 32 n := by
  apply BitVec.eq_of_toNat_eq
  rw [BitVec.toNat_setWidth, BitVec.toNat_ofInt, BitVec.toNat_ofInt]
  omega

/-- The low long of a result known modulo 2^64, sign-extended (R9). -/
theorem sext_ofInt (n : Int) : sext 32 (BitVec.ofInt 64 n) = longExtended n := by
  rw [sext, setWidth_ofInt_64_32, longExtended]

theorem sext_add (x y : Word) : sext 32 (x + y) = longExtended (x.toInt + y.toInt) := by
  rw [add_eq_ofInt, sext_ofInt]

theorem sext_sub (x y : Word) : sext 32 (x - y) = longExtended (x.toInt - y.toInt) := by
  rw [sub_eq_ofInt, sext_ofInt]

theorem sext_scaled_add (k : Nat) (x y : Word) :
    sext 32 (scaled k x + y) = longExtended (2 ^ k * x.toInt + y.toInt) := by
  rw [scaled_add_eq_ofInt, sext_ofInt]

theorem sext_scaled_sub (k : Nat) (x y : Word) :
    sext 32 (scaled k x - y) = longExtended (2 ^ k * x.toInt - y.toInt) := by
  rw [scaled_sub_eq_ofInt, sext_ofInt]

theorem ofInt_emod_two_pow (w : Nat) (n : Int) : BitVec.ofInt w (n % 2 ^ w) = BitVec.ofInt w n := by
  apply BitVec.eq_of_toNat_eq
  rw [BitVec.toNat_ofInt, BitVec.toNat_ofInt, Nat.cast_pow, Nat.cast_ofNat, Int.emod_emod]

/-- The low long of a product depends on the low longs of the factors alone (R226). -/
theorem longExtended_mul_emod (a b : Int) : longExtended (a % 2 ^ 32 * (b % 2 ^ 32)) = longExtended (a * b) := by
  rw [longExtended, longExtended, BitVec.ofInt_mul, ofInt_emod_two_pow, ofInt_emod_two_pow, BitVec.ofInt_mul]

theorem sext_mul (x y : Word) : sext 32 (x * y) = longExtended (x.toNat % 2 ^ 32 * (y.toNat % 2 ^ 32)) := by
  rw [longExtended_mul_emod, mul_eq_ofNat, sext_ofNat, Nat.cast_mul]

/-- The high quad of the 128-bit product; the product of two quads fits 128 bits (R228). -/
theorem highProduct_eq_ofNat (x y : Word) :
    (x.setWidth 128 * y.setWidth 128).extractLsb' 64 64 = BitVec.ofNat 64 (x.toNat * y.toNat / 2 ^ 64) := by
  have fits : x.toNat * y.toNat < 2 ^ 128 :=
    calc x.toNat * y.toNat < 2 ^ 64 * 2 ^ 64 := Nat.mul_lt_mul'' x.isLt y.isLt
      _ = 2 ^ 128 := (Nat.pow_add 2 64 64).symm
  have product : (x.setWidth 128 * y.setWidth 128).toNat = x.toNat * y.toNat := by
    rw [BitVec.toNat_mul, BitVec.toNat_setWidth_of_le (by omega), BitVec.toNat_setWidth_of_le (by omega),
      Nat.mod_eq_of_lt fits]
  apply BitVec.eq_of_toNat_eq
  rw [BitVec.extractLsb'_toNat, product, Nat.shiftRight_eq_div_pow, BitVec.toNat_ofNat]

/-! ### The tests -/

theorem boolWord_eq_ite {b : Bool} {p : Prop} [Decidable p] (h : b = true ↔ p) : boolWord b = if p then 1 else 0 :=
  if_congr h rfl rfl

theorem outsideSigned_iff (n : Nat) (p : Int) :
    outsideSigned n p = true ↔ p < -2 ^ (n - 1) ∨ 2 ^ (n - 1) ≤ p := by
  rw [outsideSigned, Bool.or_eq_true, decide_eq_true_iff, decide_eq_true_iff]

theorem getLsbD_boolWord (b : Bool) (j : Nat) : (boolWord b).getLsbD j = (decide (j = 0) && b) := by
  cases b <;> simp [boolWord]

/-- Result bits put in place one by one: bit `j` is the test of `j`, and the bits above are clear (R225). -/
theorem getLsbD_foldl_boolWord (c : Nat → Bool) {n : Nat} (h : n ≤ 64) (j : Nat) :
    ((List.range n).foldl (fun acc i => acc ||| boolWord (c i) <<< i) 0).getLsbD j = (decide (j < n) && c j) := by
  induction n with
  | zero => simp
  | succ n ih =>
    rw [List.range_succ, List.foldl_append, List.foldl_cons, List.foldl_nil, BitVec.getLsbD_or, ih (by omega),
      BitVec.getLsbD_shiftLeft, getLsbD_boolWord]
    rcases Nat.lt_trichotomy j n with below | rfl | above
    · simp [below, show j < n + 1 by omega]
    · simp [show j < 64 by omega]
    · simp [show ¬ j < n by omega, show ¬ j < n + 1 by omega, show j - n ≠ 0 by omega]

/-- Bit `i` of the byte compare (R225). -/
theorem getLsbD_byteCompares (x y : Word) (i : Nat) :
    (byteCompares x y).getLsbD i =
      (decide (i < 8) && decide ((y.extractLsb' (8 * i) 8).toNat ≤ (x.extractLsb' (8 * i) 8).toNat)) :=
  getLsbD_foldl_boolWord (fun i => (byteOf y i).ule (byteOf x i)) (by omega) i

/-! ### One lemma per shape of instruction -/

variable {op : BitVec 6} {fn : BitVec 7} {mk : Reg → Operand → Reg → Instr} {f g : Word → Word → Word}

/-- An instruction whose meaning is `operate` is an operate instruction whose result is that function of its sources. -/
theorem operateRule_of_operate (format : OprFormat op fn mk) (value : ∀ x y, f x y = g x y)
    (meaning : ∀ ra b rc s, exec (mk ra b rc) s = operate nativeSetup f ra b rc s) : OperateRule op fn mk g := by
  refine ⟨format, fun ra b rc s clear => ?_⟩
  rw [← value, IntResult, EndsWith, meaning]
  exact operate_result f ra b rc s clear

/-- An instruction whose meaning is `operateTrap` traps exactly when its test `ov` holds of its sources and its result. -/
theorem overflowRule_of_operateTrap (ov : Word → Word → Word → Bool) {overflow : Word → Word → Prop}
    (format : OprFormat op fn mk) (value : ∀ x y, f x y = g x y)
    (meaning : ∀ ra b rc s, exec (mk ra b rc) s = operateTrap nativeSetup f ov ra b rc s)
    (test : ∀ x y, ov x y (g x y) = true ↔ overflow x y) : OverflowRule op fn mk g overflow := by
  refine ⟨format, fun ra b rc s clear clearMask => ?_⟩
  obtain ⟨completes, traps⟩ := operateTrap_result f ov ra b rc s clear clearMask
  rw [value] at completes traps
  refine ⟨fun fits => ?_, fun overflows => ?_⟩
  · rw [IntResult, EndsWith, meaning]
    exact completes (Bool.eq_false_iff.mpr (mt (test _ _).mp fits))
  · rw [meaning]
    exact traps ((test _ _).mpr overflows)

/-- A row of opcode 0x10's function table has the operate format. -/
theorem arithFormat (row : ∀ ra b rc, decodeArith fn.toNat ra b rc = some (mk ra b rc)) : OprFormat 0x10 fn mk :=
  oprFormat_of_table (fun _ => rfl) row

/-- A row of opcode 0x13's function table has the operate format. -/
theorem multiplyFormat (row : ∀ ra b rc, decodeMultiply fn.toNat ra b rc = some (mk ra b rc)) : OprFormat 0x13 fn mk :=
  oprFormat_of_table (fun _ => rfl) row

end IntegerArithmetic

/-! ### The statements -/

/-- Settles O15: each is `operate`, its result the low long of a result modulo 2^64. -/
theorem longAddSubtract : Obligations.LongAddSubtract :=
  ⟨operateRule_of_operate (arithFormat fun _ _ _ => rfl) sext_add fun _ _ _ _ => rfl,
    operateRule_of_operate (arithFormat fun _ _ _ => rfl) (sext_scaled_add 2) fun _ _ _ _ => rfl,
    operateRule_of_operate (arithFormat fun _ _ _ => rfl) (sext_scaled_add 3) fun _ _ _ _ => rfl,
    operateRule_of_operate (arithFormat fun _ _ _ => rfl) sext_sub fun _ _ _ _ => rfl,
    operateRule_of_operate (arithFormat fun _ _ _ => rfl) (sext_scaled_sub 2) fun _ _ _ _ => rfl,
    operateRule_of_operate (arithFormat fun _ _ _ => rfl) (sext_scaled_sub 3) fun _ _ _ _ => rfl⟩

/-- Settles O16: each is `operate`, its result modulo 2^64. -/
theorem quadAddSubtract : Obligations.QuadAddSubtract :=
  ⟨operateRule_of_operate (arithFormat fun _ _ _ => rfl) add_eq_ofInt fun _ _ _ _ => rfl,
    operateRule_of_operate (arithFormat fun _ _ _ => rfl) (scaled_add_eq_ofInt 2) fun _ _ _ _ => rfl,
    operateRule_of_operate (arithFormat fun _ _ _ => rfl) (scaled_add_eq_ofInt 3) fun _ _ _ _ => rfl,
    operateRule_of_operate (arithFormat fun _ _ _ => rfl) sub_eq_ofInt fun _ _ _ _ => rfl,
    operateRule_of_operate (arithFormat fun _ _ _ => rfl) (scaled_sub_eq_ofInt 2) fun _ _ _ _ => rfl,
    operateRule_of_operate (arithFormat fun _ _ _ => rfl) (scaled_sub_eq_ofInt 3) fun _ _ _ _ => rfl⟩

/-- Settles O17: each is `operateTrap`, its test the rule's own, of the operands and the wrapped result. -/
theorem addSubtractOverflow : Obligations.AddSubtractOverflow :=
  ⟨overflowRule_of_operateTrap (addOverflow 31) (arithFormat fun _ _ _ => rfl)
      sext_add (fun _ _ _ _ => rfl) fun _ _ => Iff.rfl,
    overflowRule_of_operateTrap (subOverflow 31) (arithFormat fun _ _ _ => rfl)
      sext_sub (fun _ _ _ _ => rfl) fun _ _ => Iff.rfl,
    overflowRule_of_operateTrap (addOverflow 63) (arithFormat fun _ _ _ => rfl)
      add_eq_ofInt (fun _ _ _ _ => rfl) fun _ _ => Iff.rfl,
    overflowRule_of_operateTrap (subOverflow 63) (arithFormat fun _ _ _ => rfl)
      sub_eq_ofInt (fun _ _ _ _ => rfl) fun _ _ => Iff.rfl⟩

/-- Settles O19: each compare is `operate` of one test, and the byte compare of eight. -/
theorem compares : Obligations.Compares :=
  ⟨operateRule_of_operate (arithFormat fun _ _ _ => rfl) (fun _ _ => boolWord_eq_ite beq_iff_eq) fun _ _ _ _ => rfl,
    operateRule_of_operate (arithFormat fun _ _ _ => rfl)
      (fun _ _ => boolWord_eq_ite BitVec.slt_iff_toInt_lt) fun _ _ _ _ => rfl,
    operateRule_of_operate (arithFormat fun _ _ _ => rfl)
      (fun _ _ => boolWord_eq_ite BitVec.sle_iff_toInt_le) fun _ _ _ _ => rfl,
    operateRule_of_operate (arithFormat fun _ _ _ => rfl)
      (fun _ _ => boolWord_eq_ite BitVec.ult_iff_toNat_lt) fun _ _ _ _ => rfl,
    operateRule_of_operate (arithFormat fun _ _ _ => rfl)
      (fun _ _ => boolWord_eq_ite BitVec.ule_iff_toNat_le) fun _ _ _ _ => rfl,
    arithFormat fun _ _ _ => rfl,
    fun ra b rc s clear => ⟨byteCompares (s.readInt ra) (operandValue s b),
      getLsbD_byteCompares (s.readInt ra) (operandValue s b), operate_result byteCompares ra b rc s clear⟩⟩

/-- Settles O20: the plain multiplies are `operate`; the others are `operateTrap`, their test of the exact product. -/
theorem multiplies : Obligations.Multiplies :=
  ⟨operateRule_of_operate (multiplyFormat fun _ _ _ => rfl) sext_mul fun _ _ _ _ => rfl,
    operateRule_of_operate (multiplyFormat fun _ _ _ => rfl) mul_eq_ofNat fun _ _ _ _ => rfl,
    operateRule_of_operate (multiplyFormat fun _ _ _ => rfl) highProduct_eq_ofNat fun _ _ _ _ => rfl,
    overflowRule_of_operateTrap (fun x y _ => outsideSigned 32 (longProduct x y)) (multiplyFormat fun _ _ _ => rfl)
      (fun x y => sext_ofInt (longProduct x y)) (fun _ _ _ _ => rfl) fun x y => outsideSigned_iff 32 (longProduct x y),
    overflowRule_of_operateTrap (fun x y _ => outsideSigned 64 (quadProduct x y)) (multiplyFormat fun _ _ _ => rfl)
      (fun _ _ => rfl) (fun _ _ _ _ => rfl) fun x y => outsideSigned_iff 64 (quadProduct x y)⟩

end Sys2Proof.Machine

/-! ## Proofs of the statements about logical operations and conditional moves (42_logical_cmov R241 to R257) -/

namespace Sys2Proof.Machine

/-! ### What the tests of a value say of it as a number -/

/-- Bit 0 is the parity (R248). -/
theorem IntTest.holds_lowSet_iff (v : Word) : IntTest.lowSet.holds v = true ↔ v.toNat % 2 = 1 := by
  rw [IntTest.holds, BitVec.getLsbD, Nat.testBit_zero, decide_eq_true_iff]

theorem IntTest.holds_eq_iff (v : Word) : IntTest.eq.holds v = true ↔ v.toInt = 0 := by
  rw [IntTest.holds, beq_iff_eq, ← BitVec.toInt_inj, BitVec.ofNat_eq_ofNat, BitVec.toInt_zero]

/-- Bit 63 is the sign (R9, R252). -/
theorem IntTest.holds_lt_iff (v : Word) : IntTest.lt.holds v = true ↔ v.toInt < 0 := by
  rw [IntTest.holds, ← BitVec.msb_eq_getLsbD_last, BitVec.msb_eq_toInt, decide_eq_true_iff]

theorem IntTest.holds_le_iff (v : Word) : IntTest.le.holds v = true ↔ v.toInt ≤ 0 :=
  calc IntTest.le.holds v = true
      ↔ IntTest.lt.holds v = true ∨ IntTest.eq.holds v = true := Bool.or_eq_true_iff
    _ ↔ v.toInt < 0 ∨ v.toInt = 0 := or_congr (IntTest.holds_lt_iff v) (IntTest.holds_eq_iff v)
    _ ↔ v.toInt ≤ 0 := Int.le_iff_lt_or_eq.symm

theorem IntTest.holds_lowClear_iff (v : Word) : IntTest.lowClear.holds v = true ↔ v.toNat % 2 = 0 :=
  calc IntTest.lowClear.holds v = true
      ↔ ¬ IntTest.lowSet.holds v = true := Bool.not_iff_not
    _ ↔ v.toNat % 2 = 0 := (not_congr (IntTest.holds_lowSet_iff v)).trans Nat.mod_two_ne_one

theorem IntTest.holds_ne_iff (v : Word) : IntTest.ne.holds v = true ↔ v.toInt ≠ 0 :=
  calc IntTest.ne.holds v = true
      ↔ ¬ IntTest.eq.holds v = true := Bool.not_iff_not
    _ ↔ v.toInt ≠ 0 := not_congr (IntTest.holds_eq_iff v)

theorem IntTest.holds_ge_iff (v : Word) : IntTest.ge.holds v = true ↔ 0 ≤ v.toInt :=
  calc IntTest.ge.holds v = true
      ↔ ¬ IntTest.lt.holds v = true := Bool.not_iff_not
    _ ↔ 0 ≤ v.toInt := (not_congr (IntTest.holds_lt_iff v)).trans Int.not_lt

theorem IntTest.holds_gt_iff (v : Word) : IntTest.gt.holds v = true ↔ 0 < v.toInt :=
  calc IntTest.gt.holds v = true
      ↔ IntTest.ge.holds v = true ∧ IntTest.ne.holds v = true := Bool.and_eq_true_iff
    _ ↔ 0 ≤ v.toInt ∧ v.toInt ≠ 0 := and_congr (IntTest.holds_ge_iff v) (IntTest.holds_ne_iff v)
    _ ↔ 0 < v.toInt := by omega

/-! ### One lemma per shape of instruction -/

section LogicalGroup

variable {fn : BitVec 7} {mk : Reg → Operand → Reg → Instr}

/-- A row of opcode 0x11's function table has the operate format. -/
theorem logicalFormat (row : ∀ ra b rc, decodeLogical fn.toNat ra b rc = some (mk ra b rc)) : OprFormat 0x11 fn mk :=
  oprFormat_of_table (fun _ => rfl) row

/-- An instruction whose meaning is `operate` is an operate instruction with that very function of its sources. -/
theorem operateRule_of_logical {f : Word → Word → Word}
    (row : ∀ ra b rc, decodeLogical fn.toNat ra b rc = some (mk ra b rc))
    (meaning : ∀ ra b rc s, exec (mk ra b rc) s = operate nativeSetup f ra b rc s) : OperateRule 0x11 fn mk f :=
  operateRule_of_operate (logicalFormat row) (fun _ _ => rfl) meaning

/-- An instruction whose meaning is `conditionalMove` is a conditional move by what its test says of a value. -/
theorem moveRule_of_conditionalMove (t : IntTest) {test : Word → Prop}
    (row : ∀ ra b rc, decodeLogical fn.toNat ra b rc = some (mk ra b rc))
    (meaning : ∀ ra b rc s, exec (mk ra b rc) s = conditionalMove nativeSetup t ra b rc s)
    (holds_iff : ∀ v, t.holds v = true ↔ test v) : MoveRule fn mk test := by
  refine ⟨logicalFormat row, fun ra b rc s clear => ?_⟩
  obtain ⟨moves, leaves⟩ := conditionalMove_result t ra b rc s clear
  rw [← holds_iff, IntResult, EndsWith, EndsWith, meaning]
  exact ⟨moves, fun fails => leaves (Bool.eq_false_iff.mpr fails)⟩

end LogicalGroup

/-! ### The statements -/

/-- Settles O21: each is `operate`; AMASK's result ignores the first source, IMPLVER's both. -/
theorem logicalAndFeatureQueries : Obligations.LogicalAndFeatureQueries :=
  ⟨operateRule_of_logical (fun _ _ _ => rfl) fun _ _ _ _ => rfl,
    operateRule_of_logical (fun _ _ _ => rfl) fun _ _ _ _ => rfl,
    operateRule_of_logical (fun _ _ _ => rfl) fun _ _ _ _ => rfl,
    operateRule_of_logical (fun _ _ _ => rfl) fun _ _ _ _ => rfl,
    operateRule_of_logical (fun _ _ _ => rfl) fun _ _ _ _ => rfl,
    operateRule_of_logical (fun _ _ _ => rfl) fun _ _ _ _ => rfl,
    operateRule_of_logical (fun _ _ _ => rfl) fun _ _ _ _ => rfl,
    operateRule_of_logical (fun _ _ _ => rfl) fun _ _ _ _ => rfl⟩

/-- Settles O22: each is `conditionalMove` with its own test. -/
theorem conditionalMoves : Obligations.ConditionalMoves :=
  ⟨moveRule_of_conditionalMove .lowSet (fun _ _ _ => rfl) (fun _ _ _ _ => rfl) IntTest.holds_lowSet_iff,
    moveRule_of_conditionalMove .lowClear (fun _ _ _ => rfl) (fun _ _ _ _ => rfl) IntTest.holds_lowClear_iff,
    moveRule_of_conditionalMove .eq (fun _ _ _ => rfl) (fun _ _ _ _ => rfl) IntTest.holds_eq_iff,
    moveRule_of_conditionalMove .ne (fun _ _ _ => rfl) (fun _ _ _ _ => rfl) IntTest.holds_ne_iff,
    moveRule_of_conditionalMove .lt (fun _ _ _ => rfl) (fun _ _ _ _ => rfl) IntTest.holds_lt_iff,
    moveRule_of_conditionalMove .ge (fun _ _ _ => rfl) (fun _ _ _ _ => rfl) IntTest.holds_ge_iff,
    moveRule_of_conditionalMove .le (fun _ _ _ => rfl) (fun _ _ _ _ => rfl) IntTest.holds_le_iff,
    moveRule_of_conditionalMove .gt (fun _ _ _ => rfl) (fun _ _ _ _ => rfl) IntTest.holds_gt_iff⟩

end Sys2Proof.Machine

/-! ## Proofs of the statements about shifts and bytes (43_shift_bytemanip R260 to R289) -/

namespace Sys2Proof.Machine

/-! ### Shifts as arithmetic -/

theorem shiftCount_eq (y : Word) : shiftCount y = y.toNat % 64 := by
  rw [shiftCount, BitVec.extractLsb'_toNat, Nat.shiftRight_zero]

theorem shiftLeft_shiftCount_eq (x y : Word) : x <<< shiftCount y = BitVec.ofNat 64 (x.toNat * 2 ^ (y.toNat % 64)) := by
  apply BitVec.eq_of_toNat_eq
  rw [shiftCount_eq, BitVec.toNat_shiftLeft, Nat.shiftLeft_eq, BitVec.toNat_ofNat]

theorem ushiftRight_shiftCount_eq (x y : Word) : x >>> shiftCount y = BitVec.ofNat 64 (x.toNat / 2 ^ (y.toNat % 64)) := by
  rw [shiftCount_eq, ← Nat.shiftRight_eq_div_pow, ← BitVec.toNat_ushiftRight, BitVec.ofNat_toNat, BitVec.setWidth_eq]

/-- The arithmetic shift is the floor division of the signed value (R264). -/
theorem sshiftRight_shiftCount_eq (x y : Word) :
    x.sshiftRight (shiftCount y) = BitVec.ofInt 64 (x.toInt / 2 ^ (y.toNat % 64)) := by
  rw [shiftCount_eq, ← BitVec.ofInt_toInt (x := x.sshiftRight _), BitVec.toInt_sshiftRight, Int.shiftRight_eq_div_pow,
    Nat.cast_pow, Nat.cast_ofNat]

/-! ### Byte `i` of a word operation

A byte is written as the statements write it, `v.extractLsb' (8 * i) 8`, of a vector of any width: the insert and mask forms
work on the 128-bit intermediate of R261. -/

section Bytes

variable {w : Nat} (v : BitVec w)

theorem byte_beyond {i : Nat} (h : w ≤ 8 * i) : v.extractLsb' (8 * i) 8 = 0 := by
  ext j hj
  simp [BitVec.getLsbD_of_ge v (8 * i + j) (by omega)]

theorem byte_ushiftRight (k i : Nat) : (v >>> (8 * k)).extractLsb' (8 * i) 8 = v.extractLsb' (8 * (i + k)) 8 := by
  ext j hj
  simp [show 8 * k + (8 * i + j) = 8 * (i + k) + j by omega]

theorem byte_shiftLeft (k : Nat) {i : Nat} (h : 8 * (i + 1) ≤ w) :
    (v <<< (8 * k)).extractLsb' (8 * i) 8 = if k ≤ i then v.extractLsb' (8 * (i - k)) 8 else 0 := by
  ext j hj
  rw [BitVec.getElem_extractLsb', BitVec.getLsbD_shiftLeft]
  by_cases above : k ≤ i
  · simp [above, show 8 * i + j < w by omega, show 8 * k ≤ 8 * i + j by omega,
      show 8 * i + j - 8 * k = 8 * (i - k) + j by omega, BitVec.getLsbD]
  · simp [above, show 8 * i + j < 8 * k by omega]

theorem byte_and_not (m : BitVec w) {i : Nat} (h : 8 * (i + 1) ≤ w) :
    (v &&& ~~~m).extractLsb' (8 * i) 8 = v.extractLsb' (8 * i) 8 &&& ~~~m.extractLsb' (8 * i) 8 := by
  ext j hj
  simp [show 8 * i + j < w by omega]

end Bytes

/-- Bytes put together in order are read back in order (R70). -/
theorem byte_leValue {bs : List Byte} (fits : bs.length ≤ 8) {i : Nat} (h : i < 8) :
    (leValue bs).extractLsb' (8 * i) 8 = bs.getD i 0 := by
  induction bs generalizing i with
  | nil => exact BitVec.extractLsb'_zero
  | cons b bs ih =>
    rw [leValue, BitVec.extractLsb'_or, byte_shiftLeft (leValue bs) 1 (by omega)]
    cases i with
    | zero =>
      rw [if_neg (by omega), List.getD_cons_zero, BitVec.extractLsb'_setWidth_of_le (by omega)]
      simp
    | succ i =>
      rw [if_pos (by omega), BitVec.extractLsb'_setWidth_of_le (by omega), byte_beyond b (by omega), List.getD_cons_succ,
        Nat.add_sub_cancel, ih (Nat.le_of_succ_le fits) (by omega), BitVec.ofNat_eq_ofNat, BitVec.zero_or]

/-! ### The masks, the byte position and the 128-bit intermediate (R261) -/

theorem byteShift_eq (y : Word) : byteShift y = 8 * bytePosition y := by
  rw [byteShift, BitVec.extractLsb'_toNat, Nat.shiftRight_zero, bytePosition]

/-- A size mask has all bits of the datum's bytes and no other. -/
theorem byte_mask (w : Width) {i : Nat} (h : i < 8) : w.mask.extractLsb' (8 * i) 8 = if i < w.bytes then 0xFF else 0 := by
  cases w <;> decide +revert

theorem byte_and_mask (w : Width) (x : Word) {i : Nat} (h : i < 8) :
    (x &&& w.mask).extractLsb' (8 * i) 8 = if i < w.bytes then x.extractLsb' (8 * i) 8 else 0 := by
  rw [BitVec.extractLsb'_and, byte_mask w h]
  split
  · exact BitVec.and_allOnes
  · exact BitVec.and_zero

theorem byte_wideShift (v y : Word) {j : Nat} (h : j < 16) :
    (wideShift v y).extractLsb' (8 * j) 8 =
      if bytePosition y ≤ j then v.extractLsb' (8 * (j - bytePosition y)) 8 else 0 := by
  rw [wideShift, byteShift_eq, byte_shiftLeft _ _ (by omega), BitVec.extractLsb'_setWidth_of_le (by omega)]

theorem byte_lowPart (t : BitVec 128) {i : Nat} (h : i < 8) :
    (lowPart t).extractLsb' (8 * i) 8 = t.extractLsb' (8 * i) 8 := by
  rw [lowPart, BitVec.extractLsb'_extractLsb'_of_le (by omega)]

theorem byte_highPart (t : BitVec 128) {i : Nat} (h : i < 8) :
    (highPart t).extractLsb' (8 * i) 8 = t.extractLsb' (8 * (i + 8)) 8 := by
  ext j hj
  simp [highPart, show 8 * i + j < 64 by omega, show 64 + (8 * i + j) = 8 * (i + 8) + j by omega]

/-- A quad whose low `n` bytes are those of `f`, moved up to its position, has them from there on (R261). -/
theorem byte_wideShift_of_bytes {v : Word} {n : Nat} (f : Nat → Byte) (fits : n ≤ 8)
    (bytes : ∀ k < 8, v.extractLsb' (8 * k) 8 = if k < n then f k else 0) (y : Word) {j : Nat} (h : j < 16) :
    (wideShift v y).extractLsb' (8 * j) 8 =
      if bytePosition y ≤ j ∧ j < bytePosition y + n then f (j - bytePosition y) else 0 := by
  rw [byte_wideShift _ _ h]
  by_cases inside : j - bytePosition y < 8
  · rw [bytes _ inside, ← ite_and]
    exact if_congr (and_congr_right fun above => by omega) rfl rfl
  · rw [byte_beyond _ (by omega), ite_self, if_neg (by omega)]

/-- A datum moved up to its position occupies the bytes from there on, as many as its width (R272). -/
theorem byte_wideShift_and_mask (w : Width) (x y : Word) {j : Nat} (h : j < 16) :
    (wideShift (x &&& w.mask) y).extractLsb' (8 * j) 8 =
      if bytePosition y ≤ j ∧ j < bytePosition y + w.bytes then x.extractLsb' (8 * (j - bytePosition y)) 8 else 0 :=
  byte_wideShift_of_bytes (fun k => x.extractLsb' (8 * k) 8) (width_bytes_le w) (fun _ => byte_and_mask w x) y h

/-- The mask of a datum moved up to its position covers the bytes the datum would occupy (R279). -/
theorem byte_wideShift_mask (w : Width) (y : Word) {j : Nat} (h : j < 16) :
    (wideShift w.mask y).extractLsb' (8 * j) 8 =
      if bytePosition y ≤ j ∧ j < bytePosition y + w.bytes then 0xFF else 0 :=
  byte_wideShift_of_bytes (fun _ => 0xFF) (width_bytes_le w) (fun _ => byte_mask w) y h

/-- A byte cleared where the mask covers it, kept elsewhere. -/
theorem and_not_byteMask (p : Prop) [Decidable p] (v : Byte) : v &&& ~~~(if p then 0xFF else 0) = if p then 0 else v := by
  split
  · exact BitVec.and_zero
  · exact BitVec.and_allOnes

/-- A byte position is below 8, so every byte of the high quad is above it. -/
theorem above_position_iff (y : Word) (i n : Nat) :
    (bytePosition y ≤ i + 8 ∧ i + 8 < bytePosition y + n) ↔ i + 8 < bytePosition y + n := by
  have position : bytePosition y < 8 := Nat.mod_lt _ (by omega)
  omega

/-! ### The byte operations, byte by byte -/

section ByteOperations

variable (w : Width) (x y : Word) {i : Nat} (h : i < 8)
include h

theorem byte_extractLow : (extractLow w x y).extractLsb' (8 * i) 8 =
    if i < w.bytes ∧ i + bytePosition y < 8 then x.extractLsb' (8 * (i + bytePosition y)) 8 else 0 := by
  rw [extractLow, byteShift_eq, byte_and_mask w _ h, byte_ushiftRight, ite_and]
  by_cases inside : i + bytePosition y < 8
  · rw [if_pos inside]
  · rw [if_neg inside, byte_beyond x (by omega)]

/-- At position 0 the count is 0, not 64 (R269). -/
theorem byte_extractHigh : (extractHigh w x y).extractLsb' (8 * i) 8 =
    if i < w.bytes ∧ (8 - bytePosition y) % 8 ≤ i then x.extractLsb' (8 * (i - (8 - bytePosition y) % 8)) 8 else 0 := by
  have count : (64 - 8 * bytePosition y) % 64 = 8 * ((8 - bytePosition y) % 8) := by omega
  rw [extractHigh, byteShift_eq, count, byte_and_mask w _ h, byte_shiftLeft _ _ (by omega), ite_and]

theorem byte_insertLow : (insertLow w x y).extractLsb' (8 * i) 8 =
    if bytePosition y ≤ i ∧ i < bytePosition y + w.bytes then x.extractLsb' (8 * (i - bytePosition y)) 8 else 0 := by
  rw [insertLow, byte_lowPart _ h, byte_wideShift_and_mask w x y (by omega)]

theorem byte_insertHigh : (insertHigh w x y).extractLsb' (8 * i) 8 =
    if i + 8 < bytePosition y + w.bytes then x.extractLsb' (8 * (i + 8 - bytePosition y)) 8 else 0 := by
  rw [insertHigh, byte_highPart _ h, byte_wideShift_and_mask w x y (by omega)]
  exact if_congr (above_position_iff y i w.bytes) rfl rfl

theorem byte_maskLow : (maskLow w x y).extractLsb' (8 * i) 8 =
    if bytePosition y ≤ i ∧ i < bytePosition y + w.bytes then 0 else x.extractLsb' (8 * i) 8 := by
  rw [maskLow, byte_and_not _ _ (by omega), byte_lowPart _ h, byte_wideShift_mask w y (by omega), and_not_byteMask]

theorem byte_maskHigh : (maskHigh w x y).extractLsb' (8 * i) 8 =
    if i + 8 < bytePosition y + w.bytes then 0 else x.extractLsb' (8 * i) 8 := by
  rw [maskHigh, byte_and_not _ _ (by omega), byte_highPart _ h, byte_wideShift_mask w y (by omega),
    and_not_byteMask]
  exact if_congr (above_position_iff y i w.bytes) rfl rfl

theorem byte_keepBytes (keep : Nat → Bool) :
    (keepBytes keep x).extractLsb' (8 * i) 8 = if keep i then x.extractLsb' (8 * i) 8 else 0 := by
  rw [keepBytes, byte_leValue (by simp) h, List.getD_eq_getElem _ _ (by simpa using h), List.getElem_map,
    List.getElem_range]

/-- ZAP keeps the bytes whose bit is clear (R286). -/
theorem byte_keepBytes_not :
    (keepBytes (fun i => !y.getLsbD i) x).extractLsb' (8 * i) 8 = if y.getLsbD i then 0 else x.extractLsb' (8 * i) 8 := by
  rw [byte_keepBytes x h]
  cases y.getLsbD i <;> rfl

end ByteOperations

/-! ### One lemma per shape of instruction -/

section ShiftGroup

variable {fn : BitVec 7} {mk : Reg → Operand → Reg → Instr}

/-- A row of opcode 0x12's function table has the operate format. -/
theorem shiftFormat (row : ∀ ra b rc, decodeShift fn.toNat ra b rc = some (mk ra b rc)) : OprFormat 0x12 fn mk :=
  oprFormat_of_table (fun _ => rfl) row

/-- A row of opcode 0x1C's function table has the operate format. -/
theorem signExtendFormat (row : ∀ ra b rc, decodeSignExtend fn.toNat ra b rc = some (mk ra b rc)) : OprFormat 0x1C fn mk :=
  oprFormat_of_table (fun _ => rfl) row

/-- An instruction whose meaning is `operate` has the result whose bytes are those of `operate`'s function. -/
theorem byteRule_of_operate {f : Word → Word → Word} {g : Word → Word → Nat → Byte}
    (row : ∀ ra b rc, decodeShift fn.toNat ra b rc = some (mk ra b rc))
    (bytes : ∀ x y {i}, i < 8 → (f x y).extractLsb' (8 * i) 8 = g x y i)
    (meaning : ∀ ra b rc s, exec (mk ra b rc) s = operate nativeSetup f ra b rc s) : ByteRule 0x12 fn mk g := by
  obtain ⟨format, result⟩ := operateRule_of_operate (shiftFormat row) (fun _ _ => rfl) meaning
  exact ⟨format, fun ra b rc s clear => ⟨_, fun _ => bytes _ _, result ra b rc s clear⟩⟩

end ShiftGroup

/-! ### The statements -/

/-- Settles O23: each is `operate` of one shift by the low six bits of the count. -/
theorem shifts : Obligations.Shifts :=
  ⟨operateRule_of_operate (shiftFormat fun _ _ _ => rfl) shiftLeft_shiftCount_eq fun _ _ _ _ => rfl,
    operateRule_of_operate (shiftFormat fun _ _ _ => rfl) ushiftRight_shiftCount_eq fun _ _ _ _ => rfl,
    operateRule_of_operate (shiftFormat fun _ _ _ => rfl) sshiftRight_shiftCount_eq fun _ _ _ _ => rfl⟩

/-- Settles O24: each is `operate` of the extract of its width, low or high. -/
theorem extracts : Obligations.Extracts :=
  ⟨byteRule_of_operate (fun _ _ _ => rfl) (byte_extractLow .byte) fun _ _ _ _ => rfl,
    byteRule_of_operate (fun _ _ _ => rfl) (byte_extractLow .word) fun _ _ _ _ => rfl,
    byteRule_of_operate (fun _ _ _ => rfl) (byte_extractLow .long) fun _ _ _ _ => rfl,
    byteRule_of_operate (fun _ _ _ => rfl) (byte_extractLow .quad) fun _ _ _ _ => rfl,
    byteRule_of_operate (fun _ _ _ => rfl) (byte_extractHigh .word) fun _ _ _ _ => rfl,
    byteRule_of_operate (fun _ _ _ => rfl) (byte_extractHigh .long) fun _ _ _ _ => rfl,
    byteRule_of_operate (fun _ _ _ => rfl) (byte_extractHigh .quad) fun _ _ _ _ => rfl⟩

/-- Settles O25: each is `operate` of the insert of its width, low or high. -/
theorem inserts : Obligations.Inserts :=
  ⟨byteRule_of_operate (fun _ _ _ => rfl) (byte_insertLow .byte) fun _ _ _ _ => rfl,
    byteRule_of_operate (fun _ _ _ => rfl) (byte_insertLow .word) fun _ _ _ _ => rfl,
    byteRule_of_operate (fun _ _ _ => rfl) (byte_insertLow .long) fun _ _ _ _ => rfl,
    byteRule_of_operate (fun _ _ _ => rfl) (byte_insertLow .quad) fun _ _ _ _ => rfl,
    byteRule_of_operate (fun _ _ _ => rfl) (byte_insertHigh .word) fun _ _ _ _ => rfl,
    byteRule_of_operate (fun _ _ _ => rfl) (byte_insertHigh .long) fun _ _ _ _ => rfl,
    byteRule_of_operate (fun _ _ _ => rfl) (byte_insertHigh .quad) fun _ _ _ _ => rfl⟩

/-- Settles O26: each is `operate` of the mask of its width, low or high. -/
theorem masks : Obligations.Masks :=
  ⟨byteRule_of_operate (fun _ _ _ => rfl) (byte_maskLow .byte) fun _ _ _ _ => rfl,
    byteRule_of_operate (fun _ _ _ => rfl) (byte_maskLow .word) fun _ _ _ _ => rfl,
    byteRule_of_operate (fun _ _ _ => rfl) (byte_maskLow .long) fun _ _ _ _ => rfl,
    byteRule_of_operate (fun _ _ _ => rfl) (byte_maskLow .quad) fun _ _ _ _ => rfl,
    byteRule_of_operate (fun _ _ _ => rfl) (byte_maskHigh .word) fun _ _ _ _ => rfl,
    byteRule_of_operate (fun _ _ _ => rfl) (byte_maskHigh .long) fun _ _ _ _ => rfl,
    byteRule_of_operate (fun _ _ _ => rfl) (byte_maskHigh .quad) fun _ _ _ _ => rfl⟩

/-- Settles O27: ZAP and ZAPNOT are `operate` of `keepBytes`; SEXTB and SEXTW ignore the first source. -/
theorem zapAndSignExtend : Obligations.ZapAndSignExtend :=
  ⟨byteRule_of_operate (fun _ _ _ => rfl) byte_keepBytes_not fun _ _ _ _ => rfl,
    byteRule_of_operate (fun _ _ _ => rfl) (fun x y _ h => byte_keepBytes x h y.getLsbD) fun _ _ _ _ => rfl,
    operateRule_of_operate (f := fun _ y => sext 8 y) (signExtendFormat fun _ _ _ => rfl)
      (fun _ _ => rfl) fun _ _ _ _ => rfl,
    operateRule_of_operate (f := fun _ y => sext 16 y) (signExtendFormat fun _ _ _ => rfl)
      (fun _ _ => rfl) fun _ _ _ _ => rfl⟩

end Sys2Proof.Machine


/-! ## Proofs of the statements about control transfer (44_control R300 to R323) -/

namespace Sys2Proof.Machine

/-! ### The target of a branch -/

/-- Shifting a displacement left by 2 scales it by 4 (R140). -/
theorem signExtend_shiftLeft_2 (disp : BitVec 21) : disp.signExtend 64 <<< 2 = BitVec.ofInt 64 (4 * disp.toInt) := by
  rw [BitVec.ofInt_mul, BitVec.shiftLeft_eq_mul_twoPow, BitVec.mul_comm, BitVec.signExtend]
  rfl

/-- `branchTarget` as integer arithmetic on the displacement (R300). -/
theorem branchTarget_eq_ofInt {π : Type} (s : State π) (disp : BitVec 21) :
    branchTarget s disp = s.pc + 4 + BitVec.ofInt 64 (4 * disp.toInt) := by
  rw [branchTarget, signExtend_shiftLeft_2, State.npc]

/-! ### What the tests of a floating register say of its sign and magnitude -/

/-- Bits 62:0 are the magnitude (44_control section 4). -/
theorem fpZero_iff (v : Word) : fpZero v = true ↔ v.toNat % 2 ^ 63 = 0 := by
  rw [fpZero, beq_iff_eq, ← BitVec.toNat_inj, BitVec.extractLsb'_toNat, Nat.shiftRight_zero,
    BitVec.ofNat_eq_ofNat, BitVec.toNat_zero]

/-- Bit 63 is the sign (44_control section 4). -/
theorem fpNegative_iff (v : Word) : fpNegative v = true ↔ 2 ^ 63 ≤ v.toNat := by
  rw [fpNegative, ← BitVec.msb_eq_getLsbD_last, BitVec.msb_eq_decide, decide_eq_true_iff]

theorem not_fpZero_iff (v : Word) : (!fpZero v) = true ↔ v.toNat % 2 ^ 63 ≠ 0 :=
  Bool.not_iff_not.trans (not_congr (fpZero_iff v))

theorem not_fpNegative_iff (v : Word) : (!fpNegative v) = true ↔ v.toNat < 2 ^ 63 :=
  Bool.not_iff_not.trans ((not_congr (fpNegative_iff v)).trans Nat.not_le)

theorem FpTest.holds_lt_iff (v : Word) : FpTest.lt.holds v = true ↔ 2 ^ 63 ≤ v.toNat ∧ v.toNat % 2 ^ 63 ≠ 0 :=
  Bool.and_eq_true_iff.trans (and_congr (fpNegative_iff v) (not_fpZero_iff v))

theorem FpTest.holds_le_iff (v : Word) : FpTest.le.holds v = true ↔ 2 ^ 63 ≤ v.toNat ∨ v.toNat % 2 ^ 63 = 0 :=
  Bool.or_eq_true_iff.trans (or_congr (fpNegative_iff v) (fpZero_iff v))

theorem FpTest.holds_ge_iff (v : Word) : FpTest.ge.holds v = true ↔ v.toNat < 2 ^ 63 ∨ v.toNat % 2 ^ 63 = 0 :=
  Bool.or_eq_true_iff.trans (or_congr (not_fpNegative_iff v) (fpZero_iff v))

theorem FpTest.holds_gt_iff (v : Word) : FpTest.gt.holds v = true ↔ v.toNat < 2 ^ 63 ∧ v.toNat % 2 ^ 63 ≠ 0 :=
  Bool.and_eq_true_iff.trans (and_congr (not_fpNegative_iff v) (not_fpZero_iff v))

/-! ### One lemma per shape of instruction -/

section BranchFormat

variable {op : BitVec 6} {mk : Reg → BitVec 21 → Instr}

/-- A row of the major opcode table with the branch format's operands has the branch format. -/
theorem braFormat_of_major (major : ∀ w, decodeMajor op.toNat w = .ok (mk (fieldRa w) (fieldDisp21 w))) : BraFormat op mk :=
  hasOpcode_of_major major

/-- An instruction whose meaning is `branchIf` is a conditional branch by what its test says of a value. -/
theorem branchRule_of_branchIf (t : IntTest) {test : Word → Prop}
    (major : ∀ w, decodeMajor op.toNat w = .ok (mk (fieldRa w) (fieldDisp21 w)))
    (meaning : ∀ ra disp s, exec (mk ra disp) s = branchIf nativeSetup t ra disp s)
    (holds_iff : ∀ v, t.holds v = true ↔ test v) : BranchRule op mk test := by
  refine ⟨braFormat_of_major major, fun ra disp s clear => ?_⟩
  obtain ⟨taken, notTaken⟩ := branchIf_result t ra disp s clear
  rw [← holds_iff, ← branchTarget_eq_ofInt, EndsWith, EndsWith, meaning]
  exact ⟨taken, fun fails => notTaken (Bool.eq_false_iff.mpr fails)⟩

/-- An instruction whose meaning is `fpBranchIf` is a floating branch by what its test says of the raw bits. -/
theorem fpBranchRule_of_fpBranchIf (t : FpTest) {test : Word → Prop}
    (major : ∀ w, decodeMajor op.toNat w = .ok (mk (fieldRa w) (fieldDisp21 w)))
    (meaning : ∀ fa disp s, exec (mk fa disp) s = fpBranchIf nativeSetup t fa disp s)
    (holds_iff : ∀ v, t.holds v = true ↔ test v) : FpBranchRule op mk test := by
  refine ⟨braFormat_of_major major, fun fa disp s => ?_⟩
  obtain ⟨disabled, enabled⟩ := fpBranchIf_result t fa disp s
  rw [← holds_iff, ← branchTarget_eq_ofInt, RaisesFpDisabled, Faults, EndsWith, EndsWith, meaning]
  exact ⟨disabled, fun on clear => (enabled on clear).1,
    fun on clear fails => (enabled on clear).2 (Bool.eq_false_iff.mpr fails)⟩

end BranchFormat

/-- The type field of the jump group, read as a chain of tests (R148, R319). -/
theorem decodeJump_eq_ite (ty : BitVec 2) (ra rb : Reg) :
    decodeJump ty ra rb = if ty = 0 then .jmp ra rb else if ty = 1 then .jsr ra rb
      else if ty = 2 then .ret ra rb else .jsrCoroutine ra rb := by
  match ty with
  | 0#2 => rfl
  | 1#2 => rfl
  | 2#2 => rfl
  | 3#2 => rfl

/-- An instruction whose meaning is `branchLink` transfers with link to its branch target (R303). -/
theorem endsWith_of_branchLink {i : Instr} {ra : Reg} {disp : BitVec 21} {s : State} (clear : s.trapSumm = 0)
    (meaning : exec i s = branchLink nativeSetup ra disp s) :
    EndsWith i s fun t => TransfersWithLink s t ra (s.pc + 4 + BitVec.ofInt 64 (4 * disp.toInt)) := by
  rw [EndsWith, meaning, ← branchTarget_eq_ofInt]
  exact link_result ra (branchTarget s disp) s clear

/-- An instruction whose meaning is `jumpLink` transfers with link to what `Rb` held before the link was written, `Ra`
being `Rb` too (R319). -/
theorem endsWith_of_jumpLink {i : Instr} {ra rb : Reg} {s : State} (clear : s.trapSumm = 0)
    (meaning : exec i s = jumpLink nativeSetup ra rb s) :
    EndsWith i s fun t => TransfersWithLink s t ra (s.readInt rb) := by
  rw [EndsWith, meaning]
  exact link_result ra (s.readInt rb) s clear

/-! ### The statements -/

/-- Settles O33: each is `branchIf` with its own test. -/
theorem integerBranches : Obligations.IntegerBranches :=
  ⟨branchRule_of_branchIf .lowClear (fun _ => rfl) (fun _ _ _ => rfl) IntTest.holds_lowClear_iff,
    branchRule_of_branchIf .eq (fun _ => rfl) (fun _ _ _ => rfl) IntTest.holds_eq_iff,
    branchRule_of_branchIf .lt (fun _ => rfl) (fun _ _ _ => rfl) IntTest.holds_lt_iff,
    branchRule_of_branchIf .le (fun _ => rfl) (fun _ _ _ => rfl) IntTest.holds_le_iff,
    branchRule_of_branchIf .lowSet (fun _ => rfl) (fun _ _ _ => rfl) IntTest.holds_lowSet_iff,
    branchRule_of_branchIf .ne (fun _ => rfl) (fun _ _ _ => rfl) IntTest.holds_ne_iff,
    branchRule_of_branchIf .ge (fun _ => rfl) (fun _ _ _ => rfl) IntTest.holds_ge_iff,
    branchRule_of_branchIf .gt (fun _ => rfl) (fun _ _ _ => rfl) IntTest.holds_gt_iff⟩

/-- Settles O34: BR and BSR are `branchLink`, the jump group `jumpLink`, told apart by the type field alone. -/
theorem linkTransfers : Obligations.LinkTransfers := by
  refine ⟨braFormat_of_major fun _ => rfl, braFormat_of_major fun _ => rfl,
    hasOpcode_of_major fun w => congrArg Except.ok (decodeJump_eq_ite (w.extractLsb' 14 2) (fieldRa w) (fieldRb w)),
    fun ra rb disp s clear => ?_⟩
  exact ⟨endsWith_of_branchLink clear rfl, endsWith_of_branchLink clear rfl, endsWith_of_jumpLink clear rfl,
    endsWith_of_jumpLink clear rfl, endsWith_of_jumpLink clear rfl, endsWith_of_jumpLink clear rfl⟩

/-- Settles O35: each is `fpBranchIf` with its own test, a zero of either sign being one of magnitude 0. -/
theorem floatingBranches : Obligations.FloatingBranches :=
  ⟨fpBranchRule_of_fpBranchIf .eq (fun _ => rfl) (fun _ _ _ => rfl) fpZero_iff,
    fpBranchRule_of_fpBranchIf .lt (fun _ => rfl) (fun _ _ _ => rfl) FpTest.holds_lt_iff,
    fpBranchRule_of_fpBranchIf .le (fun _ => rfl) (fun _ _ _ => rfl) FpTest.holds_le_iff,
    fpBranchRule_of_fpBranchIf .ne (fun _ => rfl) (fun _ _ _ => rfl) not_fpZero_iff,
    fpBranchRule_of_fpBranchIf .ge (fun _ => rfl) (fun _ _ _ => rfl) FpTest.holds_ge_iff,
    fpBranchRule_of_fpBranchIf .gt (fun _ => rfl) (fun _ _ _ => rfl) FpTest.holds_gt_iff⟩

end Sys2Proof.Machine

/-! ## Proofs of the statements about the miscellaneous instructions (45_misc R330 to R340) -/

namespace Sys2Proof.Machine

/-! ### One lemma per shape of instruction -/

/-- A barrier or a hint: an instruction whose whole meaning is to advance, with no trap pending to deliver (R426). -/
theorem endsWith_of_complete_advance {i : Instr} {s : State} (clear : s.trapSumm = 0)
    (meaning : exec i s = complete nativeSetup s.advance) : EndsWith i s (OnlyAdvances s) :=
  ⟨s.advance, meaning.trans (complete_eq clear), onlyAdvances_advance s⟩

/-! ### The statements -/

/-- Settles O36: each is a row of opcode 0x18's function table, and each only advances. -/
theorem barriersAndHintsDoNothing : Obligations.BarriersAndHintsDoNothing := by
  refine ⟨mfcFormat_of_table fun _ _ => rfl, mfcFormat_of_table fun _ _ => rfl, mfcFormat_of_table fun _ _ => rfl,
    mfcFormat_of_table fun _ _ => rfl, mfcFormat_of_table fun _ _ => rfl, mfcFormat_of_table fun _ _ => rfl,
    mfcFormat_of_table fun _ _ => rfl, mfcFormat_of_table fun _ _ => rfl, fun rb s clear => ?_⟩
  have advances {i : Instr} := endsWith_of_complete_advance (i := i) clear
  simp only [List.forall_mem_cons]
  exact ⟨advances rfl, advances rfl, advances rfl, advances rfl, advances rfl, advances rfl, advances rfl, advances rfl,
    List.forall_mem_nil _⟩

end Sys2Proof.Machine

/-! ## Proofs of the statements about the floating-point interface (46_floating_interface R350 to R367) -/

namespace Sys2Proof.Machine

section FloatingInterface

variable {π : Type}

/-! ### The exponent maps, as arithmetic (R357) -/

/-- A multiple of 128 with a 7-bit field put below it. -/
theorem toNat_or_field7 (k : Nat) (fits : 128 * k < 2 ^ 11) (e : BitVec 8) :
    (BitVec.ofNat 11 (128 * k) ||| (e.extractLsb' 0 7).setWidth 11).toNat = 128 * k + e.toNat % 128 := by
  have low : e.toNat % 128 < 2 ^ 7 := Nat.mod_lt _ (by decide)
  have field : ((e.extractLsb' 0 7).setWidth 11).toNat = e.toNat % 128 := by
    rw [BitVec.toNat_setWidth, BitVec.extractLsb'_toNat, Nat.shiftRight_zero]
    exact Nat.mod_eq_of_lt (by omega)
  rw [BitVec.toNat_or, field, BitVec.toNat_ofNat, Nat.mod_eq_of_lt fits]
  exact (Nat.two_pow_add_eq_or_of_lt low k).symm

theorem toNat_mapF (e : BitVec 8) : (mapF e).toNat = exponentF e.toNat := by
  have zero_iff : e = 0 ↔ e.toNat = 0 := BitVec.toNat_inj.symm
  have top_iff : e.getLsbD 7 = true ↔ 128 ≤ e.toNat := by
    rw [← BitVec.msb_eq_getLsbD_last, BitVec.msb_eq_decide, decide_eq_true_iff]
  simp only [mapF, exponentF, zero_iff, top_iff]
  split_ifs
  · rfl
  · exact toNat_or_field7 8 (by decide) e
  · exact toNat_or_field7 7 (by decide) e

theorem toNat_mapS (e : BitVec 8) : (mapS e).toNat = exponentS e.toNat := by
  have ones_iff : e = 0xFF ↔ e.toNat = 255 := BitVec.toNat_inj.symm
  simp only [mapS, exponentS, ones_iff]
  split_ifs
  · rfl
  · exact toNat_mapF e

/-! ### The register images of the loads and the memory images of the stores (R360 to R366) -/

theorem expandF_legacySingle (m : Word) : LegacySingle m (expandF m) := by
  rw [LegacySingle, ← toNat_mapF, expandF]
  simp (disch := omega) only [extract_high, extract_low, extract_whole, Nat.reduceSub, true_and]
  rfl

theorem expandS_standardSingle (m : Word) : StandardSingle m (expandS m) := by
  rw [StandardSingle, ← toNat_mapS, expandS]
  simp (disch := omega) only [extract_high, extract_low, extract_whole, Nat.reduceSub, true_and]
  rfl

theorem reverseWords_wordsReversed (m : Word) : WordsReversed m (reverseWords m) := by
  intro i four
  rw [reverseWords]
  interval_cases i
  all_goals simp (disch := omega) only [extract_high, extract_low, extract_whole, Nat.reduceSub, Nat.reduceMul]

/-- A field inside a field. -/
theorem extract_extract {n : Nat} (x : BitVec n) (a m s k : Nat) (h : s + k ≤ m) :
    (x.extractLsb' a m).extractLsb' s k = x.extractLsb' (a + s) k := by
  ext j hj
  simp [show s + j < m by omega, Nat.add_assoc]

theorem packF_legacyImage (r : Word) : LegacyImage r (packF r) := by
  rw [LegacyImage, packF]
  simp (disch := omega) only [BitVec.extractLsb'_setWidth_of_le, extract_high, extract_low, extract_extract,
    Nat.reduceSub, and_self]

theorem packS_standardImage (r : Word) : StandardImage r (packS r) := by
  rw [StandardImage, packS]
  simp (disch := omega) only [BitVec.extractLsb'_setWidth_of_le, extract_high, extract_low, extract_whole, Nat.reduceSub,
    and_self]

/-! ### The answer of the collaborator (R351) -/

theorem writeFp_with_fpcr (s : State π) (r : Reg) (v fpcr : Word) :
    { s.writeFp r v with fpcr := fpcr } = ({ s with fpcr := fpcr } : State π).writeFp r v := by
  unfold State.writeFp
  split <;> rfl

/-- The state an executed operation leaves, its traps aside: `Fc` written when the collaborator asks, `fpcr` replaced, `PC`
advanced. -/
def State.fpExecuted (s : State π) (fc : Reg) (write : Option Word) (fpcr : Word) : State π :=
  match write with
  | some v => (({ s with fpcr := fpcr } : State π).writeFp fc v).advance
  | none => ({ s with fpcr := fpcr } : State π).advance

@[simp] theorem State.fpExecuted_pc (s : State π) (fc : Reg) (write : Option Word) (fpcr : Word) :
    (s.fpExecuted fc write fpcr).pc = alignPc (s.pc + 4) := by
  cases write <;> simp [State.fpExecuted, State.advance, State.setPc, State.npc]

@[simp] theorem State.fpExecuted_trapSumm (s : State π) (fc : Reg) (write : Option Word) (fpcr : Word) :
    (s.fpExecuted fc write fpcr).trapSumm = s.trapSumm := by
  cases write <;> simp [State.fpExecuted]

@[simp] theorem State.fpExecuted_trapMask (s : State π) (fc : Reg) (write : Option Word) (fpcr : Word) :
    (s.fpExecuted fc write fpcr).trapMask = s.trapMask := by
  cases write <;> simp [State.fpExecuted]

/-- What an executed operation ends in: its state, with the reported traps pending on the floating destination. -/
theorem applyFp_done (s : State π) (fc : Reg) (write : Option Word) (fpcr : Word) (traps : BitVec 7) :
    applyFp fc (.done write fpcr traps) s =
      .ok () (if traps = 0 then s.fpExecuted fc write fpcr
        else (s.fpExecuted fc write fpcr).trap traps (0x20 ||| fc.setWidth 6)) := by
  cases write with
  | some v =>
    rw [State.fpExecuted, ← writeFp_with_fpcr]
    exact congrArg (Result.ok ()) (apply_ite State.advance _ _ _)
  | none => exact congrArg (Result.ok ()) (apply_ite State.advance _ _ _)

/-- The mask bit of floating register `i` is 32 + i (R12, R40). -/
theorem trapMask_fpBit (fc : Reg) : (0x20 ||| fc.setWidth 6).toNat = 32 + fc.toNat := by
  have low : fc.toNat < 2 ^ 5 := fc.isLt
  rw [BitVec.toNat_or, BitVec.toNat_setWidth, Nat.mod_eq_of_lt (by omega)]
  exact (Nat.two_pow_add_eq_or_of_lt low 1).symm

/-- Traps recorded by an otherwise complete instruction are delivered at its end, with nothing else pending (R426). -/
theorem finish_trapped {s : State} (clear : s.trapSumm = 0) (clearMask : s.trapMask = 0) {traps : BitVec 7} (caused : traps ≠ 0)
    (reg : BitVec 6) :
    finish nativeSetup (.ok () (s.trap traps reg)) = .next (nativeTrap traps (1#64 <<< reg.toNat) s.pc s) := by
  have summ : (s.trap traps reg).trapSumm = traps := by simp [State.trap, clear]
  have mask : (s.trap traps reg).trapMask = 1#64 <<< reg.toNat := by simp [State.trap, clearMask]
  have cleared : { s.trap traps reg with trapSumm := 0, trapMask := 0 } = s := by
    rw [← clear, ← clearMask]
    rfl
  rw [finish_trap rfl (by rwa [summ]), cleared, summ, mask, State.trap_pc]

/-! ### One lemma per shape of instruction -/

/-- An instruction that begins with the enable test raises floating-point-disabled before anything else (R354). -/
theorem raisesFpDisabled_of_requireFp {i : Instr} {s : State} {f : Unit → State → Result NativeState Unit}
    (shape : exec i s = finish nativeSetup ((requireFp s).andThen f)) (disabled : s.fpen = false) : RaisesFpDisabled i s := by
  rw [requireFp_disabled f disabled] at shape
  exact shape.trans (finish_raise rfl .floatingDisabled 0 s)

/-- An instruction whose meaning is `fpOperate` is a floating operate instruction of its group. -/
theorem fpOperateRule_of_fpOperate {op : BitVec 6} {mk : Reg → Reg → Reg → BitVec 11 → Instr}
    (major : ∀ w, decodeMajor op.toNat w = .ok (mk (fieldRa w) (fieldRb w) (fieldRc w) (fieldFn11 w)))
    (meaning : ∀ fa fb fc fn s, exec (mk fa fb fc fn) s = fpOperate nativeSetup op fa fb fc fn s) : FpOperateRule op mk := by
  refine ⟨hasOpcode_of_major major, fun fa fb fc fn s =>
    ⟨raisesFpDisabled_of_requireFp (meaning fa fb fc fn s), fun enabled clear clearMask => ?_⟩⟩
  have answered := meaning fa fb fc fn s
  rw [fpOperate, requireFp_enabled _ enabled, show nativeSetup.fp = Config.fpOperate from rfl] at answered
  cases answer : Config.fpOperate op fn (s.readFp fa) (s.readFp fb) s.fpcr with
  | reserved => rw [answer] at answered; exact answered
  | badOperand => rw [answer] at answered; exact answered
  | done write fpcr traps =>
    rw [answer, applyFp_done] at answered
    refine ⟨s.fpExecuted fc write fpcr, ?_, answered.trans ?_⟩
    · cases write with
      | some v => exact writesFp_advance { s with fpcr := fpcr } fc v
      | none => exact onlyAdvances_advance { s with fpcr := fpcr }
    · split_ifs with quiet
      · exact finish_ok (by simpa using clear)
      · rw [finish_trapped (by simpa using clear) (by simpa using clearMask) quiet, trapMask_fpBit, State.fpExecuted_pc]

variable {op : BitVec 6} {mk : Reg → Reg → BitVec 16 → Instr} {w : Width}

/-- An instruction whose meaning is `loadFp` is a floating load by what its expansion makes of the number read. -/
theorem fpLoadRule_of_loadFp {expand : Word → Word} {image : Nat → Word → Prop} (format : MemFormat op mk)
    (meaning : ∀ fa rb disp s, exec (mk fa rb disp) s = finish nativeSetup (loadFp nativeSetup w expand fa rb disp s))
    (expands : ∀ n, image n (expand (BitVec.ofNat 64 n))) : FpLoadRule op mk w image := by
  refine ⟨format, fun fa rb disp s =>
    ⟨raisesFpDisabled_of_requireFp (meaning fa rb disp s), fun enabled clear => ?_⟩⟩
  have shape := meaning fa rb disp s
  rw [loadFp, requireFp_enabled _ enabled] at shape
  exact virtualReadRule_of_alignedRead (fin := fun m s' => (s'.writeFp fa (expand m)).advance) shape clear
    (fun m s' => by simp) fun n s' => ⟨_, expands n, writesFp_advance s' fa _⟩

/-- An instruction whose meaning is `storeFp` is a floating store of what its packing makes of the register. -/
theorem fpStoreRule_of_storeFp {pack : Word → Word} {image : Word → Word → Prop} (format : MemFormat op mk)
    (meaning : ∀ fa rb disp s, exec (mk fa rb disp) s = finish nativeSetup (storeFp nativeSetup w pack fa rb disp s))
    (packs : ∀ r, image r (pack r)) : FpStoreRule op mk w image := by
  refine ⟨format, fun fa rb disp s =>
    ⟨raisesFpDisabled_of_requireFp (meaning fa rb disp s), fun enabled clear wf => ⟨pack (s.readFp fa), packs _, ?_⟩⟩⟩
  have shape := meaning fa rb disp s
  rw [storeFp, requireFp_enabled _ enabled] at shape
  exact virtualWriteRule_of_alignedWrite (fin := State.advance) shape clear wf (fun _ => rfl) (fun _ => rfl)
    onlyAdvances_advance

end FloatingInterface

/-! ### The statements -/

/-- Settles O38: each group is `fpOperate` at its opcode, by the cases of the collaborator's answer. -/
theorem floatingOperate : Obligations.FloatingOperate :=
  ⟨fpOperateRule_of_fpOperate (fun _ => rfl) fun _ _ _ _ _ => rfl,
    fpOperateRule_of_fpOperate (fun _ => rfl) fun _ _ _ _ _ => rfl,
    fpOperateRule_of_fpOperate (fun _ => rfl) fun _ _ _ _ _ => rfl,
    fpOperateRule_of_fpOperate (fun _ => rfl) fun _ _ _ _ _ => rfl⟩

/-- Settles O39: each load is `loadFp` at its width, with its expansion. -/
theorem floatingLoads : Obligations.FloatingLoads :=
  ⟨fpLoadRule_of_loadFp (memFormat_of_major fun _ => rfl) (fun _ _ _ _ => rfl) fun _ => expandF_legacySingle _,
    fpLoadRule_of_loadFp (memFormat_of_major fun _ => rfl) (fun _ _ _ _ => rfl) fun _ => reverseWords_wordsReversed _,
    fpLoadRule_of_loadFp (memFormat_of_major fun _ => rfl) (fun _ _ _ _ => rfl) fun _ => expandS_standardSingle _,
    fpLoadRule_of_loadFp (memFormat_of_major fun _ => rfl) (fun _ _ _ _ => rfl) fun _ => rfl⟩

/-- Settles O40: each store is `storeFp` at its width, with its packing. -/
theorem floatingStores : Obligations.FloatingStores :=
  ⟨fpStoreRule_of_storeFp (memFormat_of_major fun _ => rfl) (fun _ _ _ _ => rfl) packF_legacyImage,
    fpStoreRule_of_storeFp (memFormat_of_major fun _ => rfl) (fun _ _ _ _ => rfl) reverseWords_wordsReversed,
    fpStoreRule_of_storeFp (memFormat_of_major fun _ => rfl) (fun _ _ _ _ => rfl) packS_standardImage,
    fpStoreRule_of_storeFp (memFormat_of_major fun _ => rfl) (fun _ _ _ _ => rfl) fun _ => rfl⟩

end Sys2Proof.Machine

/-! ## Proofs of the statements about the internal registers (47_firmware_opcodes R385, R386; 10_state R49, R50) -/

namespace Sys2Proof.Machine

section InternalRegisters

variable {π : Type} {M : Setup π}

/-! ### The index of a register (R49) -/

/-- The column "Index" of the internal-register map. -/
def Ipr.number : Ipr → Nat
  | .excAddr => 0x0000
  | .palBase => 0x0001
  | .fwCtl => 0x0002
  | .cm => 0x0003
  | .altMode => 0x0004
  | .ipl => 0x0005
  | .intSumm => 0x0006
  | .intId => 0x0007
  | .excSum => 0x0008
  | .excMask => 0x0009
  | .faultKind => 0x000A
  | .faultVa => 0x000B
  | .lockFlag => 0x000C
  | .shdwAct => 0x000E
  | .halt => 0x000F
  | .itbTag => 0x0010
  | .itbPte => 0x0011
  | .itbAsn => 0x0012
  | .itbIs => 0x0013
  | .itbIap => 0x0014
  | .itbIa => 0x0015
  | .dtbTag => 0x0020
  | .dtbPte => 0x0021
  | .dtbAsn => 0x0022
  | .dtbIs => 0x0023
  | .dtbIap => 0x0024
  | .dtbIa => 0x0025
  | .tbIs => 0x0030
  | .tbIap => 0x0031
  | .tbIa => 0x0032
  | .palTemp k => 0x0040 + k
  | .pcq k => 0x0100 + k

/-- An index names the register with its number; an entry it names of the history queue is one of the queue's. -/
theorem Ipr.ofIndex_eq_some {index : BitVec 16} {r : Ipr} (h : Ipr.ofIndex M index = some r) :
    index.toNat = r.number ∧ ∀ k, r = .pcq k → k < M.pcqSize := by
  unfold Ipr.ofIndex at h
  split at h
  -- the branch of no fixed index: the two arrays
  case h_31 =>
    split_ifs at h with temp queue
    · cases h
      exact ⟨by simp only [Ipr.number]; omega, fun _ e => nomatch e⟩
    · cases h
      exact ⟨by simp only [Ipr.number]; omega, fun k e => by have := Ipr.pcq.inj e; omega⟩
  all_goals
    cases h
    exact ⟨by assumption, fun _ e => nomatch e⟩

theorem readableIndex_iff (size : Nat) (index : BitVec 16) :
    ReadableIndex size index ↔ index.toNat ≤ 0x000C ∨ index.toNat = 0x000E ∨ index.toNat = 0x0012 ∨
      index.toNat = 0x0022 ∨ (0x0040 ≤ index.toNat ∧ index.toNat < 0x0058) ∨
      (0x0100 ≤ index.toNat ∧ index.toNat < 0x0100 + size) := by
  simp [ReadableIndex, ← BitVec.toNat_inj, or_assoc]

theorem writableIndex_iff (index : BitVec 16) :
    WritableIndex index ↔ index.toNat ≤ 0x0005 ∨ index.toNat = 0x0008 ∨ index.toNat = 0x000C ∨ index.toNat = 0x000F ∨
      (0x0010 ≤ index.toNat ∧ index.toNat ≤ 0x0015) ∨ (0x0020 ≤ index.toNat ∧ index.toNat ≤ 0x0025) ∨
      (0x0030 ≤ index.toNat ∧ index.toNat ≤ 0x0032) ∨ (0x0040 ≤ index.toNat ∧ index.toNat < 0x0058) := by
  simp [WritableIndex, ← BitVec.toNat_inj, or_assoc]

/-! ### What is not in the map, or not in that direction (R50) -/

theorem iprRead_of_ofIndex {index : BitVec 16} {r : Ipr} (s : State π) (h : Ipr.ofIndex M index = some r) :
    iprRead M index s = r.read M s := by
  rw [iprRead, h]

/-- The index of a register with a read column is readable. -/
theorem readableIndex_of_read {index : BitVec 16} {r : Ipr} {s : State π} (h : Ipr.ofIndex M index = some r)
    (reads : r.read M s ≠ none) : ReadableIndex M.pcqSize index := by
  obtain ⟨number, queue⟩ := Ipr.ofIndex_eq_some h
  rw [readableIndex_iff]
  cases r <;> simp only [Ipr.number] at number
  case halt | itbTag | itbPte | itbIs | itbIap | itbIa | dtbTag | dtbPte | dtbIs | dtbIap | dtbIa | tbIs | tbIap | tbIa =>
    exact absurd rfl reads
  case pcq k =>
    have := queue k rfl
    omega
  all_goals omega

theorem iprRead_of_not_readable {index : BitVec 16} (s : State π) (h : ¬ ReadableIndex M.pcqSize index) :
    iprRead M index s = none := by
  cases named : Ipr.ofIndex M index with
  | none => rw [iprRead, named]
  | some r =>
    rw [iprRead_of_ofIndex s named]
    exact not_not.mp (mt (readableIndex_of_read named) h)

theorem iprWrite_of_ofIndex {index : BitVec 16} {r : Ipr} {v : Word} {s : State π} {res : Result π Unit}
    (h : Ipr.ofIndex M index = some r) (writes : r.write M v s = some res) : iprWrite M index v s = res := by
  simp only [iprWrite, h, writes]

/-- The index of a register with a write column is writable. -/
theorem writableIndex_of_write {index : BitVec 16} {r : Ipr} {v : Word} {s : State π} (h : Ipr.ofIndex M index = some r)
    (writes : r.write M v s ≠ none) : WritableIndex index := by
  obtain ⟨number, -⟩ := Ipr.ofIndex_eq_some h
  rw [writableIndex_iff]
  cases r <;> simp only [Ipr.number] at number
  case intSumm | intId | excMask | faultKind | faultVa | shdwAct | pcq => exact absurd rfl writes
  all_goals omega

theorem iprWrite_of_not_writable {index : BitVec 16} (v : Word) (s : State π) (h : ¬ WritableIndex index) :
    iprWrite M index v s = raise .reservedOperand 0 s := by
  cases named : Ipr.ofIndex M index with
  | none => simp only [iprWrite, named]
  | some r =>
    have readOnly : r.write M v s = none := not_not.mp (mt (writableIndex_of_write named) h)
    simp only [iprWrite, named, readOnly]

/-! ### The read column, value by value -/

theorem fwCtl_eq (s : State π) :
    s.fwCtl = BitVec.ofNat 64 (s.sde.toNat + 2 * s.fpen.toNat + 4 * s.ispe.toNat + 8 * s.dspe.toNat) := by
  rw [State.fwCtl]
  cases s.sde <;> cases s.fpen <;> cases s.ispe <;> cases s.dspe <;> rfl

theorem boolWord_eq (b : Bool) : boolWord b = BitVec.ofNat 64 b.toNat := by cases b <;> rfl

/-- A concatenation, as a number. -/
theorem toNat_append_eq_add {m n : Nat} (high : BitVec m) (low : BitVec n) :
    (high ++ low).toNat = 2 ^ n * high.toNat + low.toNat := by
  rw [BitVec.toNat_append, Nat.shiftLeft_eq, Nat.mul_comm, Nat.two_pow_add_eq_or_of_lt low.isLt]

/-- Bit 0 of the requests reads 0, and line 1 is bit 1 (R33, R49). -/
theorem intSumm_eq (irq : BitVec 31) : (irq ++ 0#1).setWidth 64 = BitVec.ofNat 64 (2 * irq.toNat) := by
  rw [← BitVec.ofNat_toNat, toNat_append_eq_add]
  rfl

/-- The fault kind in bits 4:0, its mode in bits 9:8 (R49). -/
theorem faultKindWord_eq (kind : BitVec 5) (mode : Mode) :
    (mode ++ 0#3 ++ kind).setWidth 64 = BitVec.ofNat 64 (kind.toNat + 256 * mode.toNat) := by
  rw [← BitVec.ofNat_toNat, toNat_append_eq_add, toNat_append_eq_add, BitVec.toNat_zero]
  congr 1
  omega

/-- Each row of the read column, its value as arithmetic (R49). -/
theorem iprRead_of_registerReads (s : State π) :
    ∀ p ∈ registerReads (s.privateRegisters M) s, iprRead M p.1 s = some p.2 := by
  simp only [registerReads, List.forall_mem_cons, BitVec.ofNat_toNat, ← fwCtl_eq, ← boolWord_eq, ← intSumm_eq,
    ← faultKindWord_eq, BitVec.setWidth_eq]
  exact ⟨rfl, rfl, rfl, rfl, rfl, rfl, rfl, rfl, rfl, rfl, rfl, rfl, rfl, rfl, rfl, rfl, List.forall_mem_nil _⟩

/-! ### The write column, value by value -/

/-- What `exc_addr` takes: bit 1 cleared (R34). -/
theorem excAddrWritten_eq (v : Word) : alignPc v ||| boolWord (v.getLsbD 0) = v &&& ~~~2#64 := by
  have bit : boolWord (v.getLsbD 0) = v &&& 1#64 := by
    rw [BitVec.and_one_eq_setWidth_ofBool_getLsbD]
    cases v.getLsbD 0 <;> rfl
  rw [bit, alignPc, ← BitVec.and_or_distrib_left]
  rfl

theorem mod_pow_div_pow (v a b : Nat) : v % 2 ^ b / 2 ^ a = v / 2 ^ a % 2 ^ (b - a) := by
  rcases Nat.le_total a b with le | le
  · conv_lhs => rw [← Nat.add_sub_cancel' le, pow_add]
    exact Nat.mod_mul_right_div_self v (2 ^ a) (2 ^ (b - a))
  · have small : v % 2 ^ b < 2 ^ a := (Nat.mod_lt _ (by positivity)).trans_le (Nat.pow_le_pow_right (by decide) le)
    rw [Nat.sub_eq_zero_of_le le, pow_zero, Nat.mod_one, Nat.div_eq_of_lt small]

/-- What `pal_base` takes: bits `PA_BITS`-1:15 (R35). -/
theorem palBaseWritten_eq (v : Word) (bits : Nat) :
    field v 15 (bits - 15) <<< 15 = BitVec.ofNat 64 (v.toNat % 2 ^ bits / 2 ^ 15 * 2 ^ 15) := by
  rw [field, ← mod_pow_div_pow, BitVec.shiftLeft_eq_mul_twoPow, BitVec.ofNat_mul]
  rfl

theorem field_zero (v : Word) (n : Nat) : field v 0 n = BitVec.ofNat 64 (v.toNat % 2 ^ n) := by
  rw [field, pow_zero, Nat.div_one]

/-- Each row of the write column but the table loads (R49). -/
theorem iprWrite_of_registerWrites (v : Word) (s : State π) :
    ∀ p ∈ registerWrites M (s.privateRegisters M) v s, iprWrite M p.1 v s = .ok () p.2 := by
  simp only [registerWrites, List.forall_mem_cons, ← excAddrWritten_eq, ← palBaseWritten_eq, ← field_zero]
  exact ⟨rfl, rfl, rfl, rfl, rfl, rfl, rfl, rfl, rfl, rfl, rfl, rfl, rfl, rfl, rfl, rfl, rfl, rfl, rfl, rfl,
    rfl, rfl, List.forall_mem_nil _⟩

/-- The two loads of a table entry, from the tag latches (R47, R49). -/
theorem iprWrite_tablePte (v : Word) (s : State π) :
    ∀ p ∈ [(0x0011#16, Side.instruction, s.itbTag), (0x0021, .data, s.dtbTag)],
      iprWrite M p.1 v s = (tlbLoad M p.2.1 p.2.2 v s).andThen fun _ s' => .ok () s' := by
  simp only [List.forall_mem_cons]
  exact ⟨rfl, rfl, List.forall_mem_nil _⟩

/-! ### What every write leaves alone -/

/-- Loading a table entry leaves `PC` and the trap summary alone. -/
theorem tlbLoad_ok_keeps {side : Side} {vpn : Vpn} {p : Word} {s t : State π} {e : TlbEntry}
    (h : tlbLoad M side vpn p s = .ok e t) : t.pc = s.pc ∧ t.trapSumm = s.trapSumm := by
  rcases tlbLoad_cases M side vpn p s with ⟨slot, nlu, loaded, -⟩ | ⟨stopped, -⟩
  · cases loaded.symm.trans h
    simp
  · cases stopped.symm.trans h

/-- No row of the write column touches `PC` or records a trap. -/
theorem registerWrites_keep (n : NativeState) (v : Word) (s : State π) :
    ∀ p ∈ registerWrites M n v s, p.2.pc = s.pc ∧ p.2.trapSumm = s.trapSumm := by
  simp [registerWrites, setAsn, invalidateSingle, invalidateAll]

/-! ### The two opcodes, under any parameters (R385, R386, R391) -/

/-- The legality test comes before everything else, under any parameters (R380). -/
theorem dispatchFault_of_denied {i : Instr} {s : State π} {f : Unit → State π → Result π Unit}
    (shape : execUnder M i s = finish M ((requirePrivileged s).andThen f)) (denied : ¬ (s.palMode = true ∨ s.cm = 0)) :
    execUnder M i s = dispatchFault M .reservedInstruction 0 s.cm s := by
  rw [shape, requirePrivileged_denied f denied]
  rfl

/-- `HW_MFPR` executes the read column under any parameters (R385). -/
theorem readsMap (M : Setup π) : ReadsMap M := by
  intro ra index s n raises
  refine ⟨dispatchFault_of_denied rfl, fun legal clear =>
    ⟨fun p hp => ?_, fun k => ?_, fun k queue fits => ?_, fun unreadable => ?_⟩⟩
  · rw [hwMfpr_result ra p.1 legal clear, iprRead_of_registerReads s p hp]
  · rw [hwMfpr_result ra _ legal clear, iprRead_of_ofIndex s (Ipr.ofIndex_palTemp k)]
    rfl
  · rw [hwMfpr_result ra _ legal clear, iprRead_of_ofIndex s (Ipr.ofIndex_pcq queue fits)]
    rfl
  · show execUnder M (.hwMfpr ra index) s = _
    rw [hwMfpr_result ra index legal clear, iprRead_of_not_readable s unreadable]

/-- A register write that keeps `PC` and leaves no trap pending is all that `HW_MTPR` does, beside advancing. -/
theorem hwMtpr_completes {rb : Reg} {index : BitVec 16} {s t : State π} (legal : s.palMode = true ∨ s.cm = 0)
    (clear : s.trapSumm = 0) (written : iprWrite M index (s.readInt rb) s = .ok () t)
    (keeps : t.pc = s.pc ∧ t.trapSumm = s.trapSumm) :
    execUnder M (.hwMtpr rb index) s = .next { t with pc := alignPc (s.pc + 4) } := by
  obtain ⟨pc, traps⟩ := keeps
  have advanced : t.advance = { t with pc := alignPc (s.pc + 4) } := by rw [← pc]; rfl
  have quiet : t.advance.trapSumm = 0 := traps.trans clear
  rw [hwMtpr_result rb index legal, written, andThen_ok, finish_ok quiet, advanced]

/-- `HW_MTPR` executes the write column under any parameters (R386). -/
theorem writesMap (M : Setup π) : WritesMap M := by
  intro rb index s v n advanced raises
  refine ⟨dispatchFault_of_denied rfl, fun legal clear =>
    ⟨fun p hp => ?_, fun k => ?_, fun p hp => ⟨fun e s' loaded => ?_, fun f stopped => ?_⟩, fun unwritable => ?_⟩⟩
  · exact hwMtpr_completes legal clear (iprWrite_of_registerWrites v s p hp) (registerWrites_keep n v s p hp)
  · exact hwMtpr_completes legal clear (iprWrite_of_ofIndex (Ipr.ofIndex_palTemp k) rfl) ⟨rfl, rfl⟩
  · have written : iprWrite M p.1 v s = .ok () s' := by rw [iprWrite_tablePte v s p hp, loaded, andThen_ok]
    exact hwMtpr_completes legal clear written (tlbLoad_ok_keeps loaded)
  · rw [hwMtpr_result rb p.1 legal, iprWrite_tablePte v s p hp, stopped]
    rfl
  · show execUnder M (.hwMtpr rb index) s = _
    rw [hwMtpr_result rb index legal, iprWrite_of_not_writable v s unwritable]
    rfl

end InternalRegisters

/-- A fault dispatched under NATIVE at the instruction itself (R412, R414). -/
theorem faults_of_dispatchFault {i : Instr} {s : State} {k : FaultKind} {va : Word} {m : Mode}
    (shape : execUnder nativeSetup i s = dispatchFault nativeSetup k va m s) : Faults i s k va m s := by
  have taken : dispatchFault nativeSetup k va m s = .next (nativeException k va m s.pc s) := finish_raised rfl k va m s
  rw [Faults, exec_eq_execUnder, shape, taken]

theorem intResult_of_writeInt {i : Instr} {s : State} {rc : Reg} {v : Word}
    (shape : execUnder nativeSetup i s = .next (s.writeInt rc v).advance) : IntResult i s rc v :=
  ⟨_, (exec_eq_execUnder i s).trans shape, writesInt_advance s rc v⟩

/-! ### The statements -/

/-- Settles O43: the host's machine is one of those whose map `readsMap` reads. -/
theorem internalRegisterReads : Obligations.InternalRegisterReads := by
  refine ⟨hasOpcode_of_major fun _ => rfl, fun ra index s => ?_⟩
  obtain ⟨denied, allowed⟩ := readsMap nativeSetup ra index s
  refine ⟨fun illegal => faults_of_dispatchFault (denied illegal), fun legal clear => ?_⟩
  obtain ⟨listed, temps, queue, unreadable⟩ := allowed legal clear
  exact ⟨fun p hp => intResult_of_writeInt (listed p hp), fun k => intResult_of_writeInt (temps k),
    fun k => intResult_of_writeInt (queue k k.isLt (by omega)), fun h => faults_of_dispatchFault (unreadable h)⟩

/-- Settles O44: the host's machine is one of those whose map `writesMap` writes. -/
theorem internalRegisterWrites : Obligations.InternalRegisterWrites := by
  refine ⟨hasOpcode_of_major fun _ => rfl, fun rb index s => ?_⟩
  obtain ⟨denied, allowed⟩ := writesMap nativeSetup rb index s
  refine ⟨fun illegal => faults_of_dispatchFault (denied illegal), fun legal clear => ?_⟩
  obtain ⟨listed, temps, tables, unwritable⟩ := allowed legal clear
  refine ⟨fun p hp => (exec_eq_execUnder _ s).trans (listed p hp), fun k => (exec_eq_execUnder _ s).trans (temps k),
    fun p hp => ?_, fun h => faults_of_dispatchFault (unwritable h)⟩
  obtain ⟨loads, stops⟩ := tables p hp
  exact ⟨fun e s' loaded => (exec_eq_execUnder _ s).trans (loads e s' loaded),
    fun f stopped => (exec_eq_execUnder _ s).trans (stops f stopped)⟩

end Sys2Proof.Machine

/-! ## Proofs of the statements about the return and the hardware accesses (47_firmware_opcodes R382 to R384, R389) -/

namespace Sys2Proof.Machine

section FirmwareOpcodes

variable {π : Type}

/-! ### The return from firmware (R389) -/

/-- `HW_REI` where it is legal, its must-be-zero bits clear (R389). -/
theorem hwRei_allowed {s : State} (rs : Bool) (legal : s.palMode = true ∨ s.cm = 0) (clear : s.trapSumm = 0) :
    exec (.hwRei rs 0) s = .next (s.returnFromFirmware rs) := by
  have kept : (s.returnFromFirmware rs).trapSumm = s.trapSumm := by rw [returnFromFirmware_eq]
  have shape : exec (.hwRei rs 0) s = finish nativeSetup ((requirePrivileged s).andThen fun _ s1 =>
      .ok () (s1.returnFromFirmware rs)) := rfl
  rw [shape, requirePrivileged_allowed _ legal]
  exact finish_ok (kept.trans clear)

/-! ### The place of a hardware access (R382) -/

theorem requireMbz_clear {α : Type} {q : HwQualifiers} {s : State π} (f : Unit → State π → Result π α)
    (mbz13 : q.mbz13 = false) (mbz11 : q.mbz11 = false) : (requireMbz q s).andThen f = f () s := by
  simp [requireMbz, HwQualifiers.mbzClear, mbz13, mbz11]

/-- Past its alignment test, a hardware access is at its place. -/
theorem hwPhys_eq (q : HwQualifiers) (ea : Word) (acc : Access) (s : State) :
    hwPhys nativeSetup q ea acc s = (checkAligned ea (hwWidth q) s).andThen fun _ s1 => hwPlace q ea acc s1 := by
  have physical : field ea 0 nativeSetup.paBits = BitVec.ofNat 64 (ea.toNat % 2 ^ 44) := field_zero ea 44
  simp only [hwPhys, hwPlace, physical]

/-- Finding the place leaves memory, the trap summary and `lock_flag` alone. -/
theorem hwPlace_ok_keeps {q : HwQualifiers} {ea : Word} {acc : Access} {s s' : State} {pa : PhysAddr}
    (h : hwPlace q ea acc s = .ok pa s') :
    s'.mem = s.mem ∧ s'.trapSumm = s.trapSumm ∧ s'.lockFlag = s.lockFlag := by
  unfold hwPlace at h
  split at h
  · cases h
    exact ⟨rfl, rfl, rfl⟩
  · obtain ⟨d, mini, rfl⟩ := translate_ok_state (native_missPolicy rfl _) h
    simp

/-! ### The hardware load and store past their legality tests (R383, R384) -/

/-- What a hardware access does once the legality test and the must-be-zero test have passed (R380, R382). -/
theorem exec_of_hwTests_passed {i : Instr} {q : HwQualifiers} {s : State} {access : State → Result NativeState Unit}
    (shape : exec i s = finish nativeSetup ((requirePrivileged s).andThen fun _ s1 =>
      (requireMbz q s1).andThen fun _ s2 => access s2))
    (legal : s.palMode = true ∨ s.cm = 0) (mbz13 : q.mbz13 = false) (mbz11 : q.mbz11 = false) :
    exec i s = finish nativeSetup (access s) := by
  rw [shape, requirePrivileged_allowed _ legal, requireMbz_clear _ mbz13 mbz11]

/-- The end of a hardware load past its access: the quad, or the long sign-extended, in `Ra`; `lock_flag` under LOCK (R383). -/
def State.concludeHwLoad (s : State π) (ra : Reg) (q : HwQualifiers) (v : Word) : State π :=
  (({ s with lockFlag := s.lockFlag || q.lock } : State π).writeInt ra (if q.quad then v else sext 32 v)).advance

/-- `HW_LD` past its tests: the alignment test, the place, the read, the end (R382, R383). -/
theorem hwLoad_eq (ra rb : Reg) (q : HwQualifiers) (disp : BitVec 10) (s : State) :
    hwLoad nativeSetup ra rb q disp s =
      (checkAligned (hwAddr s rb disp) (hwWidth q) s).andThen fun _ s1 =>
        (hwPlace q (hwAddr s rb disp) .read s1).andThen fun pa s2 =>
          (memRead nativeSetup pa (hwWidth q) s2).andThen fun v s3 => .ok () (s3.concludeHwLoad ra q v) := by
  simp only [hwLoad, hwPhys_eq, andThen_assoc, State.writeInt_lockFlag, writeInt_with_lockFlag]
  rfl

theorem concludeHwLoad_ends (s : State) (ra : Reg) (q : HwQualifiers) (n : Nat) :
    WritesInt { s with lockFlag := s.lockFlag || q.lock } (s.concludeHwLoad ra q (BitVec.ofNat 64 n)) ra
      (if q.quad then zeroExtended n else longExtended n) := by
  rw [State.concludeHwLoad, sext_ofNat, zeroExtended]
  exact writesInt_advance _ ra _

theorem hwLoad_readRule {ra rb : Reg} {q : HwQualifiers} {disp : BitVec 10} {s : State}
    (shape : exec (.hwLd ra rb q disp) s = finish nativeSetup (hwLoad nativeSetup ra rb q disp s))
    (clear : s.trapSumm = 0) :
    ReadRule (.hwLd ra rb q disp) s (hwAddr s rb disp) (hwWidth q) (hwPlace q (hwAddr s rb disp) .read s) fun s' n t =>
      WritesInt { s' with lockFlag := s.lockFlag || q.lock } t ra (if q.quad then zeroExtended n else longExtended n) := by
  rw [hwLoad_eq] at shape
  refine read_shape (place := hwPlace q (hwAddr s rb disp) .read) (fin := fun v s' => s'.concludeHwLoad ra q v) shape
    (fun pa s' placed => ?_) clear fun n s' _ => ⟨?_, ?_⟩
  · obtain ⟨mem, traps, -⟩ := hwPlace_ok_keeps placed
    exact ⟨mem, traps⟩
  · simp [State.concludeHwLoad]
  · rintro ⟨pa, s0, placed, log, answers, draws, rfl⟩
    obtain ⟨-, -, lock⟩ := hwPlace_ok_keeps placed
    rw [← lock]
    exact concludeHwLoad_ends _ ra q n

/-- `HW_ST` under LOCK with `lock_flag` clear writes 0 to `Ra` and nothing else (R384). -/
theorem hwStore_unlocked {ra rb : Reg} {q : HwQualifiers} {disp : BitVec 10} {s : State π} (M : Setup π)
    (lock : q.lock = true) (unlocked : s.lockFlag = false) :
    hwStore M ra rb q disp s = .ok () (s.writeInt ra 0).advance := by
  have same : ({ s with lockFlag := false } : State π) = s := by rw [← unlocked]
  rw [hwStore, if_pos (by simp [lock, unlocked]), concludeStore_eq, same]
  rfl

/-- The end of a hardware store past its access: a store-conditional's under LOCK (R384). -/
def State.concludeHwStore (s : State π) (ra : Reg) (lock : Bool) : State π :=
  if lock then s.concludeStore ra true else s.advance

theorem concludeHwStore_keeps (s : State π) (ra : Reg) (lock : Bool) :
    (s.concludeHwStore ra lock).trapSumm = s.trapSumm ∧ (s.concludeHwStore ra lock).mem = s.mem := by
  cases lock <;> simp [State.concludeHwStore, concludeStore_eq]

theorem concludeHwStore_ends (s : State) (ra : Reg) (lock : Bool) :
    if lock then WritesInt { s with lockFlag := false } (s.concludeHwStore ra lock) ra 1
    else OnlyAdvances s (s.concludeHwStore ra lock) := by
  cases lock with
  | true =>
    rw [if_pos rfl, State.concludeHwStore, if_pos rfl, concludeStore_eq]
    exact writesInt_advance _ ra 1
  | false => exact onlyAdvances_advance s

/-- `HW_ST` where it stores: without LOCK, or with `lock_flag` set (R384). -/
theorem hwStore_stores {ra rb : Reg} {q : HwQualifiers} {disp : BitVec 10} {s : State}
    (stores : q.lock = false ∨ s.lockFlag = true) :
    hwStore nativeSetup ra rb q disp s =
      (checkAligned (hwAddr s rb disp) (hwWidth q) s).andThen fun _ s1 =>
        (hwPlace q (hwAddr s rb disp) .write s1).andThen fun pa s2 =>
          (memWrite nativeSetup pa (hwWidth q) (s.readInt ra) s2).andThen fun _ s3 =>
            .ok () (s3.concludeHwStore ra q.lock) := by
  have go : ¬ (q.lock && !s.lockFlag) = true := by
    rcases stores with h | h <;> simp [h]
  rw [hwStore, if_neg go, hwPhys_eq, andThen_assoc]
  rfl

theorem hwStore_writeRule {ra rb : Reg} {q : HwQualifiers} {disp : BitVec 10} {s : State}
    (shape : exec (.hwSt ra rb q disp) s = finish nativeSetup (hwStore nativeSetup ra rb q disp s))
    (clear : s.trapSumm = 0) (wf : Memory.wf s.mem = true) (stores : q.lock = false ∨ s.lockFlag = true) :
    WriteRule (.hwSt ra rb q disp) s (hwAddr s rb disp) (hwWidth q) (s.readInt ra)
      (hwPlace q (hwAddr s rb disp) .write s) fun s' t =>
        if q.lock then WritesInt { s' with lockFlag := false } t ra 1 else OnlyAdvances s' t := by
  rw [hwStore_stores stores] at shape
  refine write_shape (place := hwPlace q (hwAddr s rb disp) .write) (fin := fun s' => s'.concludeHwStore ra q.lock) shape
    (fun pa s' placed => ?_) clear wf fun s' => ?_
  · obtain ⟨mem, traps, -⟩ := hwPlace_ok_keeps placed
    exact ⟨mem, traps⟩
  · obtain ⟨traps, mem⟩ := concludeHwStore_keeps s' ra q.lock
    exact ⟨traps, mem, concludeHwStore_ends s' ra q.lock⟩

end FirmwareOpcodes

/-! ### The statements -/

/-- Settles O12: the legality test, the must-be-zero test, then the body of the return. -/
theorem returnFromFirmware : Obligations.ReturnFromFirmware := by
  refine ⟨hasOpcode_of_major fun _ => rfl, fun rs mbz s =>
    ⟨raisesReserved_of_denied rfl, fun _ set => hwRei_mbz_reserved rs s set, fun legal clear => ?_⟩⟩
  refine ⟨s.returnFromFirmware rs, hwRei_allowed rs legal clear, ?_⟩
  rw [returnFromFirmware_eq]
  exact ⟨rfl, pushed_pushPc s s.pc, fun _ => rfl⟩

/-- Settles O45: past its tests it is a read at `hwPlace`. -/
theorem hardwareLoad : Obligations.HardwareLoad :=
  ⟨hasOpcode_of_major fun _ => rfl, fun _ _ _ _ _ =>
    ⟨raisesReserved_of_denied rfl, fun _ set => raisesReserved_of_allowed rfl (requireMbz_set _ set),
      fun legal mbz13 mbz11 clear => hwLoad_readRule (exec_of_hwTests_passed rfl legal mbz13 mbz11) clear⟩⟩

/-- Settles O46: past its tests it writes 0 to `Ra`, or is a write at `hwPlace`, by LOCK and `lock_flag`. -/
theorem hardwareStore : Obligations.HardwareStore := by
  refine ⟨hasOpcode_of_major fun _ => rfl, fun ra rb q disp s =>
    ⟨raisesReserved_of_denied rfl, fun _ set => raisesReserved_of_allowed rfl (requireMbz_set _ set),
      fun legal mbz13 mbz11 clear wf => ⟨fun lock unlocked => ?_, fun stores => ?_⟩⟩⟩
  · have ends : exec (.hwSt ra rb q disp) s = finish nativeSetup (hwStore nativeSetup ra rb q disp s) :=
      exec_of_hwTests_passed rfl legal mbz13 mbz11
    rw [hwStore_unlocked nativeSetup lock unlocked] at ends
    exact ⟨_, ends.trans (finish_ok (by simpa using clear)), writesInt_advance s ra 0⟩
  · exact hwStore_writeRule (exec_of_hwTests_passed rfl legal mbz13 mbz11) clear wf stores

end Sys2Proof.Machine

/-! ## Proofs of the statements about exceptions and interrupts (60_exceptions R420, R421, R426, R431 to R434) -/

namespace Sys2Proof.Machine

section Entries

variable {π : Type}

/-! ### The evaluator of pending interrupts (R431) -/

/-- Level `l` is one of `1` to `n`, its line is asserted, and it is above `ipl`. -/
def AssertedAbove (ipl : BitVec 5) (irq : BitVec 31) (n l : Nat) : Prop :=
  1 ≤ l ∧ l ≤ n ∧ irq.getLsbD (l - 1) = true ∧ ipl.toNat < l

theorem assertedAbove_zero (ipl : BitVec 5) (irq : BitVec 31) (l : Nat) : ¬ AssertedAbove ipl irq 0 l := by
  rintro ⟨low, high, -⟩
  omega

/-- One more level adds only that level. -/
theorem assertedAbove_succ_iff (ipl : BitVec 5) (irq : BitVec 31) (n l : Nat) :
    AssertedAbove ipl irq (n + 1) l ↔
      (l = n + 1 ∧ irq.getLsbD n = true ∧ ipl.toNat < n + 1) ∨ AssertedAbove ipl irq n l := by
  constructor
  · rintro ⟨low, high, line, above⟩
    rcases Nat.le_succ_iff.mp high with below | rfl
    · exact .inr ⟨low, below, line, above⟩
    · exact .inl ⟨rfl, line, above⟩
  · rintro (⟨rfl, line, above⟩ | ⟨low, high, line, above⟩)
    · exact ⟨by omega, le_rfl, line, above⟩
    · exact ⟨low, by omega, line, above⟩

/-- The evaluator answers the greatest such level, or 0 where there is none. -/
theorem highestPending_greatest (ipl : BitVec 5) (irq : BitVec 31) (n : Nat) :
    (highestPending ipl irq n = 0 ∧ ∀ l, ¬ AssertedAbove ipl irq n l) ∨
      (AssertedAbove ipl irq n (highestPending ipl irq n) ∧
        ∀ l, AssertedAbove ipl irq n l → l ≤ highestPending ipl irq n) := by
  induction n with
  | zero => exact .inl ⟨rfl, assertedAbove_zero ipl irq⟩
  | succ n ih =>
    by_cases top : irq.getLsbD n = true ∧ ipl.toNat < n + 1
    · have taken : highestPending ipl irq (n + 1) = n + 1 := if_pos (by simpa [and_comm] using top)
      rw [taken]
      exact .inr ⟨(assertedAbove_succ_iff ipl irq n _).mpr (.inl ⟨rfl, top⟩), fun l ⟨_, high, _⟩ => high⟩
    · have passed : highestPending ipl irq (n + 1) = highestPending ipl irq n :=
        if_neg (by simpa [and_comm] using top)
      have same (l : Nat) : AssertedAbove ipl irq (n + 1) l ↔ AssertedAbove ipl irq n l :=
        (assertedAbove_succ_iff ipl irq n l).trans (or_iff_right fun ⟨_, asserted⟩ => top asserted)
      simpa only [passed, same] using ih

theorem nativePending_le (ipl : BitVec 5) (irq : BitVec 31) : nativePending ipl irq ≤ 31 := by
  rcases highestPending_greatest ipl irq 31 with ⟨noLevel, -⟩ | ⟨⟨-, high, -⟩, -⟩
  · exact noLevel.trans_le (by decide)
  · exact high

/-! ### The poll and the entry it makes (R431, R432, R434) -/

theorem pendingLevel_firmware {M : Setup π} {s : State π} (firmware : s.palMode = true) : pendingLevel M s = 0 :=
  if_pos firmware

/-- Outside firmware the poll under NATIVE is its evaluator's answer. -/
theorem pendingLevel_native {s : State} (outside : s.palMode = false) :
    (pendingLevel nativeSetup s).val = nativePending s.ipl s.irq := by
  have polled : pendingLevel nativeSetup s = Fin.ofNat 32 (nativePending s.ipl s.irq) := if_neg (by simp [outside])
  rw [polled, Fin.val_ofNat, Nat.mod_eq_of_lt (Nat.lt_succ_of_le (nativePending_le _ _))]

/-- A pending interrupt is taken in place of the fetch. -/
theorem boundary_of_pending {M : Setup π} {s : State π} (pending : pendingLevel M s ≠ 0) :
    boundary M s = takeInterrupt M (pendingLevel M s) s := if_neg pending

theorem takeInterrupt_native (level : Fin 32) (s : State) :
    takeInterrupt nativeSetup level s = .next (nativeInterrupt level s.pc s) := rfl

/-! ### What an entry records and where it goes (R34, R420) -/

theorem packExcAddr_high (resume : Word) (mode : Bool) :
    (packExcAddr resume mode).extractLsb' 2 62 = resume.extractLsb' 2 62 := by
  have flag : (boolWord mode).extractLsb' 2 62 = 0 := by cases mode <;> rfl
  have kept : (alignPc resume).extractLsb' 2 62 = resume.extractLsb' 2 62 := by
    rw [alignPc, BitVec.extractLsb'_and, show (~~~3#64).extractLsb' 2 62 = BitVec.allOnes 62 from rfl, BitVec.and_allOnes]
  rw [packExcAddr, BitVec.extractLsb'_or, flag, kept]
  exact BitVec.or_zero

theorem packExcAddr_bit0 (resume : Word) (mode : Bool) : (packExcAddr resume mode).getLsbD 0 = mode := by
  cases mode <;> simp [packExcAddr, alignPc, boolWord]

theorem getLsbD_of_low_zero {w n i : Nat} {v : BitVec w} (low : v.extractLsb' 0 n = 0) (below : i < n) :
    v.getLsbD i = false := by
  have bit : (v.extractLsb' 0 n).getLsbD i = false := by rw [low]; exact BitVec.getLsbD_zero
  simpa [BitVec.getLsbD_extractLsb', below] using bit

theorem alignPc_of_aligned {v : Word} (aligned : ∀ i < 2, v.getLsbD i = false) : alignPc v = v := by
  ext i hi
  rw [← BitVec.getLsbD_eq_getElem, ← BitVec.getLsbD_eq_getElem]
  by_cases low : i < 2
  · simp [alignPc, aligned i low]
  · have cleared : (3#64).getLsbD i = false :=
      Nat.testBit_lt_two_pow ((show 3 < 2 ^ 2 by decide).trans_le (Nat.pow_le_pow_right (by decide) (by omega)))
    rw [alignPc, BitVec.getLsbD_and, BitVec.getLsbD_not, cleared]
    simp [hi]

/-- A base with 15 zero low bits and an offset of 15 bits have no bit in common. -/
theorem base_and_offset_eq_zero {base : Word} (offset : BitVec 15) (low : base.extractLsb' 0 15 = 0) :
    base &&& offset.setWidth 64 = 0#64 := by
  ext i hi
  rw [← BitVec.getLsbD_eq_getElem, BitVec.getLsbD_and, BitVec.getLsbD_setWidth]
  by_cases below : i < 15
  · simp [getLsbD_of_low_zero low below]
  · simp [BitVec.getLsbD_of_ge offset i (by omega)]

/-- The address of an entry is aligned, so writing it to `PC` keeps it whole. -/
theorem alignPc_entry {base : Word} {offset : BitVec 15} (low : base.extractLsb' 0 15 = 0)
    (multiple : offset.extractLsb' 0 2 = 0) : alignPc (base ||| offset.setWidth 64) = base ||| offset.setWidth 64 := by
  refine alignPc_of_aligned fun i hi => ?_
  rw [BitVec.getLsbD_or, getLsbD_of_low_zero low (by omega), BitVec.getLsbD_setWidth, getLsbD_of_low_zero multiple hi]
  simp

/-- Where the exchange is enabled and none is in force, an entry makes it (R36, R420). -/
theorem enterFirmware_exchanged {s : State π} (offset : BitVec 15) (resume : Word)
    (due : s.sde = true ∧ s.shdwActive = false) :
    (s.enterFirmware offset resume).regs = s.exchange.regs ∧ (s.enterFirmware offset resume).shadow = s.exchange.shadow ∧
      (s.enterFirmware offset resume).shdwActive = true := by
  obtain ⟨enabled, free⟩ := due
  simp [enterFirmware_eq, enabled, free]

/-- An entry elsewhere makes none, so a nested one keeps what the first exchanged. -/
theorem enterFirmware_not_exchanged {s : State π} (offset : BitVec 15) (resume : Word)
    (idle : ¬ (s.sde = true ∧ s.shdwActive = false)) :
    (s.enterFirmware offset resume).regs = s.regs ∧ (s.enterFirmware offset resume).shadow = s.shadow ∧
      (s.enterFirmware offset resume).shdwActive = s.shdwActive := by
  have kept : ¬ (s.sde && !s.shdwActive) = true := by simpa using idle
  rw [enterFirmware_eq, if_neg kept]
  exact ⟨rfl, rfl, rfl⟩

/-- An entry changes no register outside the shadow set. -/
theorem enterFirmware_readInt_other (s : State π) (offset : BitVec 15) (resume : Word) (r : Reg)
    (outside : r ∉ [8, 9, 10, 11, 12, 13, 14, 25]) : (s.enterFirmware offset resume).readInt r = s.readInt r := by
  by_cases due : s.sde = true ∧ s.shdwActive = false
  · obtain ⟨regs, -⟩ := enterFirmware_exchanged offset resume due
    rw [← exchange_readInt_other s r outside, State.readInt, State.readInt, regs]
  · obtain ⟨regs, -⟩ := enterFirmware_not_exchanged offset resume due
    rw [State.readInt, State.readInt, regs]

/-- An entry is one record update (R421). -/
theorem enterFirmware_frame (s : State π) (offset : BitVec 15) (resume : Word) :
    s.enterFirmware offset resume =
      { s with
        excAddr := (s.enterFirmware offset resume).excAddr
        palMode := (s.enterFirmware offset resume).palMode
        pc := (s.enterFirmware offset resume).pc
        regs := (s.enterFirmware offset resume).regs
        shadow := (s.enterFirmware offset resume).shadow
        shdwActive := (s.enterFirmware offset resume).shdwActive } := by
  rw [enterFirmware_eq]
  split_ifs with due
  · rw [exchange_eq]
  · rfl

end Entries

section PendingTraps

variable {π α β : Type} {M : Setup π}

/-! ### No trap pending (R40, R426) -/

/-- No trap is pending, and no register is recorded as a trap's destination. -/
def State.NoTraps (s : State π) : Prop := s.trapSumm = 0 ∧ s.trapMask = 0

/-- What part of an instruction ends in has no trap pending. -/
def Result.NoTraps : Result π α → Prop
  | .ok _ s => s.NoTraps
  | .raised _ _ _ s => s.NoTraps
  | .stopped _ => True

/-- The next state of a step, where there is one, has no trap pending. -/
def LeavesNoTraps (o : Host.Outcome (State π) Fault Refusal) : Prop := ∀ t, o = .next t → t.NoTraps

theorem leavesNoTraps_next {s : State π} (quiet : s.NoTraps) : LeavesNoTraps (.next s) := by
  rintro t ⟨⟩
  exact quiet

theorem leavesNoTraps_fault (f : Fault) : LeavesNoTraps (.fault f : Host.Outcome (State π) Fault Refusal) := by
  rintro t ⟨⟩

theorem leavesNoTraps_refused (r : Refusal) : LeavesNoTraps (.refused r : Host.Outcome (State π) Fault Refusal) := by
  rintro t ⟨⟩

/-- An update that keeps both parts of the trap state keeps them clear. -/
theorem State.NoTraps.of_eq {s t : State π} (quiet : s.NoTraps) (summ : t.trapSumm = s.trapSumm)
    (mask : t.trapMask = s.trapMask) : t.NoTraps := ⟨summ.trans quiet.1, mask.trans quiet.2⟩

theorem State.NoTraps.setPc {s : State π} (quiet : s.NoTraps) (v : Word) : (s.setPc v).NoTraps := quiet

theorem State.NoTraps.advance {s : State π} (quiet : s.NoTraps) : s.advance.NoTraps := quiet

theorem State.NoTraps.writeInt {s : State π} (quiet : s.NoTraps) (r : Reg) (v : Word) : (s.writeInt r v).NoTraps :=
  quiet.of_eq (s.writeInt_trapSumm r v) (s.writeInt_trapMask r v)

theorem State.NoTraps.writeFp {s : State π} (quiet : s.NoTraps) (r : Reg) (v : Word) : (s.writeFp r v).NoTraps :=
  quiet.of_eq (s.writeFp_trapSumm r v) (s.writeFp_trapMask r v)

theorem State.NoTraps.setTlb {s : State π} (quiet : s.NoTraps) (side : Side) (t : Tlb) : (s.setTlb side t).NoTraps :=
  quiet.of_eq (s.setTlb_trapSumm side t) (s.setTlb_trapMask side t)

theorem State.NoTraps.setAsn {s : State π} (quiet : s.NoTraps) (side : Side) (a : Asn) : (setAsn side a s).NoTraps :=
  quiet.setTlb side _

theorem State.NoTraps.invalidateSingle {s : State π} (quiet : s.NoTraps) (side : Side) (va : Word) :
    (invalidateSingle M side va s).NoTraps := quiet.setTlb side _

theorem State.NoTraps.invalidateAll {s : State π} (quiet : s.NoTraps) (side : Side) (includeGlobal : Bool) :
    (invalidateAll side includeGlobal s).NoTraps := quiet.setTlb side _

theorem State.NoTraps.exchange {s : State π} (quiet : s.NoTraps) : s.exchange.NoTraps :=
  quiet.of_eq s.exchange_trapSumm s.exchange_trapMask

theorem State.NoTraps.enterFirmware {s : State π} (quiet : s.NoTraps) (offset : BitVec 15) (resume : Word) :
    (s.enterFirmware offset resume).NoTraps :=
  quiet.of_eq (s.enterFirmware_trapSumm offset resume) (s.enterFirmware_trapMask offset resume)

theorem State.NoTraps.returnFromFirmware {s : State π} (quiet : s.NoTraps) (rs : Bool) :
    (s.returnFromFirmware rs).NoTraps := by
  rw [returnFromFirmware_eq]
  exact quiet

theorem State.NoTraps.concludeStore {s : State π} (quiet : s.NoTraps) (ra : Reg) (success : Bool) :
    (s.concludeStore ra success).NoTraps := quiet.writeInt ra _

/-! ### The shared operations leave none pending -/

theorem Result.NoTraps.andThen {r : Result π α} {f : α → State π → Result π β} (start : r.NoTraps)
    (next : ∀ a s, s.NoTraps → (f a s).NoTraps) : (r.andThen f).NoTraps := by
  cases r with
  | ok a s => exact next a s start
  | raised k va m s => exact start
  | stopped c => trivial

theorem Result.NoTraps.of_ok {r : Result π α} {a : α} {s : State π} (quiet : r.NoTraps) (ended : r = .ok a s) :
    s.NoTraps := by
  rwa [ended] at quiet

theorem Result.NoTraps.of_raised {r : Result π α} {k : FaultKind} {va : Word} {m : Mode} {s : State π} (quiet : r.NoTraps)
    (ended : r = .raised k va m s) : s.NoTraps := by
  rwa [ended] at quiet

theorem raise_noTraps {s : State π} (quiet : s.NoTraps) (k : FaultKind) (va : Word) :
    (raise k va s : Result π α).NoTraps := quiet

/-- A test that passes or raises leaves the state alone: R78, R354, R380, R382. -/
theorem test_noTraps {s : State π} (quiet : s.NoTraps) (c : Prop) [Decidable c] (k : FaultKind) (va : Word) :
    (if c then .ok () s else raise k va s : Result π Unit).NoTraps := by
  split
  · exact quiet
  · exact quiet

theorem memRead_noTraps {s : State π} (quiet : s.NoTraps) (pa : PhysAddr) (w : Width) : (memRead M pa w s).NoTraps := by
  rcases memRead_cases M pa w s with ⟨v, log, answers, draws, answered⟩ | stopped
  · rw [answered]; exact quiet
  · rw [stopped]; trivial

theorem memWrite_noTraps {s : State π} (quiet : s.NoTraps) (pa : PhysAddr) (w : Width) (v : Word) :
    (memWrite M pa w v s).NoTraps := by
  rcases memWrite_cases M pa w v s with stored | ⟨log, answers, draws, answered⟩ | stopped
  · rw [stored]; exact quiet
  · rw [answered]; exact quiet
  · rw [stopped]; trivial

theorem tlbLoad_noTraps {s : State π} (quiet : s.NoTraps) (side : Side) (vpn : Vpn) (p : Word) :
    (tlbLoad M side vpn p s).NoTraps := by
  rcases tlbLoad_cases M side vpn p s with ⟨slot, nlu, loaded, -⟩ | ⟨stopped, -⟩
  · rw [loaded]; exact quiet.setTlb side _
  · rw [stopped]; trivial

theorem walk_noTraps {policy : Side → MissPolicy} {s : State π} (quiet : s.NoTraps) (walk : Walk policy) :
    (walk.run M s).NoTraps := by
  rcases walk_cases M walk s with ⟨a, log, answers, draws, answered⟩ | stopped
  · rw [answered]; exact quiet
  · rw [stopped]; trivial

theorem useEntry_noTraps {s : State π} (quiet : s.NoTraps) (va : Word) (acc : Access) (m : Mode) (e : TlbEntry) :
    (useEntry M va acc m e s).NoTraps := by
  unfold useEntry
  split
  · exact quiet
  · exact quiet.setTlb acc.side _

/-- A miss raises, or loads what the walk answers (R107). -/
theorem missEntry_noTraps {s : State π} (quiet : s.NoTraps) (va : Word) (acc : Access) (m : Mode) :
    (missEntry M va acc m s).NoTraps := by
  unfold missEntry
  split
  · exact quiet
  · refine (walk_noTraps quiet _).andThen fun answer s' quiet' => ?_
    cases answer with
    | fault k expected => exact quiet'
    | pte p => exact tlbLoad_noTraps quiet' acc.side _ p

theorem translateTable_noTraps {s : State π} (quiet : s.NoTraps) (va : Word) (acc : Access) (m : Mode) :
    (translateTable M va acc m s).NoTraps := by
  obtain ⟨d, drawn⟩ := lookup_state s acc.side (vpnOf M va)
  unfold translateTable
  cases found : s.lookup acc.side (vpnOf M va) with
  | mk entry s' =>
    have quiet' : s'.NoTraps := by
      rw [found] at drawn
      cases drawn
      exact quiet
    cases entry with
    | some e => exact useEntry_noTraps quiet' va acc m e
    | none => exact (missEntry_noTraps quiet' va acc m).andThen fun e _ loaded => useEntry_noTraps loaded va acc m e

theorem translate_noTraps {s : State π} (quiet : s.NoTraps) (va : Word) (acc : Access) (m : Mode) :
    (translate M va acc m s).NoTraps := by
  unfold translate
  split_ifs
  · exact quiet
  · exact quiet
  · exact quiet
  · exact translateTable_noTraps quiet va acc m

theorem vread_noTraps {s : State π} (quiet : s.NoTraps) (va : Word) (w : Width) (m : Mode) :
    (vread M va w m s).NoTraps :=
  (translate_noTraps quiet va .read m).andThen fun pa _ placed => memRead_noTraps placed pa w

theorem vwrite_noTraps {s : State π} (quiet : s.NoTraps) (va : Word) (w : Width) (v : Word) (m : Mode) :
    (vwrite M va w v m s).NoTraps :=
  (translate_noTraps quiet va .write m).andThen fun pa _ placed => memWrite_noTraps placed pa w v

theorem alignedRead_noTraps {s : State π} (quiet : s.NoTraps) (va : Word) (w : Width) : (alignedRead M va w s).NoTraps :=
  (test_noTraps quiet _ _ _).andThen fun _ s' aligned => vread_noTraps aligned va w s'.cm

theorem alignedWrite_noTraps {s : State π} (quiet : s.NoTraps) (va : Word) (w : Width) (v : Word) :
    (alignedWrite M va w v s).NoTraps :=
  (test_noTraps quiet _ _ _).andThen fun _ s' aligned => vwrite_noTraps aligned va w v s'.cm

theorem hwPhys_noTraps {s : State π} (quiet : s.NoTraps) (q : HwQualifiers) (ea : Word) (acc : Access) :
    (hwPhys M q ea acc s).NoTraps := by
  refine (test_noTraps quiet _ _ _).andThen fun _ s' aligned => ?_
  split
  · exact aligned
  · exact translate_noTraps aligned ea acc _

/-- No row of the write column records a trap (R49). -/
theorem Ipr.write_noTraps {s : State π} (quiet : s.NoTraps) {r : Ipr} {v : Word} {res : Result π Unit}
    (row : r.write M v s = some res) : res.NoTraps := by
  cases r with
  | intSumm | intId | excMask | faultKind | faultVa | shdwAct | pcq => cases row
  | itbPte | dtbPte =>
    cases row
    exact (tlbLoad_noTraps quiet _ _ v).andThen fun _ _ loaded => loaded
  | itbAsn | dtbAsn =>
    cases row
    exact quiet.setAsn _ _
  | itbIs | dtbIs =>
    cases row
    exact quiet.invalidateSingle _ v
  | itbIap | itbIa | dtbIap | dtbIa =>
    cases row
    exact quiet.invalidateAll _ _
  | tbIs =>
    cases row
    exact (quiet.invalidateSingle .instruction v).invalidateSingle .data v
  | tbIap | tbIa =>
    cases row
    exact (quiet.invalidateAll .instruction _).invalidateAll .data _
  | excAddr | palBase | fwCtl | cm | altMode | ipl | excSum | lockFlag | halt | itbTag | dtbTag | palTemp =>
    cases row
    exact quiet.of_eq rfl rfl

theorem iprWrite_noTraps {s : State π} (quiet : s.NoTraps) (index : BitVec 16) (v : Word) :
    (iprWrite M index v s).NoTraps := by
  unfold iprWrite
  split
  next r _ =>
    split
    next row => exact Ipr.write_noTraps quiet row
    next => exact raise_noTraps quiet _ _
  next => exact raise_noTraps quiet _ _

/-! ### A callback leaves none pending: R441 lists no change of the trap state -/

theorem apply_noTraps (u : CallbackUpdate π) (s : State π) (quiet : s.NoTraps) : (u.apply M s).NoTraps := by
  cases u with
  | pc | cm | ipl | palMode | excAddr | lockFlag | privateState => exact quiet
  | writeInt r v => exact quiet.writeInt r v
  | exchange => exact quiet.exchange
  | setAsn side a => exact quiet.setAsn side _
  | invalidateSingle side va => exact quiet.invalidateSingle side va
  | invalidateAll side includeGlobal => exact quiet.invalidateAll side includeGlobal
  | enterFirmware offset resume => exact quiet.enterFirmware offset resume

theorem perform_noTraps (c : CallbackCall) {s : State π} (quiet : s.NoTraps) : (c.perform M s).NoTraps := by
  cases c with
  | memRead pa w => exact memRead_noTraps quiet pa w
  | memWrite pa w v => exact (memWrite_noTraps quiet pa w v).andThen fun _ _ written => written
  | vread va w m => exact vread_noTraps quiet va w m
  | vwrite va w v m => exact (vwrite_noTraps quiet va w v m).andThen fun _ _ written => written
  | tlbLoad side vpn p => exact (tlbLoad_noTraps quiet side _ p).andThen fun _ _ loaded => loaded

theorem run_noTraps {p : Callback π α} {s t : State π} {a : α} (quiet : s.NoTraps)
    (answered : p.run M s = .answered a t) : t.NoTraps := by
  obtain ⟨answers, -⟩ := run_rule (P := State.NoTraps) (Q := fun _ => True) apply_noTraps
    (fun c _ _ _ start performed => (perform_noTraps c start).of_ok performed)
    (fun c _ _ _ _ _ start performed => (perform_noTraps c start).of_raised performed) (fun _ _ _ _ _ => trivial) p s quiet
  exact answers a t answered

/-! ### The end of an instruction leaves none pending -/

theorem enteredOutcome_noTraps {s : State π} (quiet : s.NoTraps) (p : Callback π EntryAnswer) :
    LeavesNoTraps (enteredOutcome (p.run M s)) := by
  cases ran : p.run M s with
  | stopped f => exact leavesNoTraps_fault f
  | answered a t =>
    cases a with
    | entered => exact leavesNoTraps_next (run_noTraps quiet ran)
    | stop code => exact leavesNoTraps_fault _

theorem dispatchFault_noTraps {s : State π} (quiet : s.NoTraps) (k : FaultKind) (va : Word) (m : Mode) :
    LeavesNoTraps (dispatchFault M k va m s) := by
  unfold dispatchFault
  cases ran : (M.personality.enterOnException k va m s.pc s).run M s with
  | stopped f => exact leavesNoTraps_fault f
  | answered a t =>
    cases a with
    | entered => exact leavesNoTraps_next (run_noTraps quiet ran)
    | unexpected => exact leavesNoTraps_fault _
    | stop code => exact leavesNoTraps_fault _

/-- Delivery clears the trap state before the personality's callback runs. -/
theorem dispatchTrap_noTraps (s : State π) : LeavesNoTraps (dispatchTrap M s) :=
  enteredOutcome_noTraps ⟨rfl, rfl⟩ _

/-- An instruction that recorded a register only with a cause ends with neither. -/
theorem complete_noTraps {s : State π} (paired : s.trapSumm = 0 → s.trapMask = 0) : LeavesNoTraps (complete M s) := by
  by_cases clear : s.trapSumm = 0
  · rw [complete_eq clear]
    exact leavesNoTraps_next ⟨clear, paired clear⟩
  · have delivered : complete M s = dispatchTrap M s := finish_pending clear
    rw [delivered]
    exact dispatchTrap_noTraps s

theorem complete_noTraps_of_noTraps {s : State π} (quiet : s.NoTraps) : LeavesNoTraps (complete M s) :=
  complete_noTraps fun _ => quiet.2

/-- A trap just recorded with a cause is delivered. -/
theorem complete_trap_noTraps (s : State π) {traps : BitVec 7} (caused : traps ≠ 0) (reg : BitVec 6) :
    LeavesNoTraps (complete M (s.trap traps reg)) :=
  complete_noTraps fun clear => absurd (BitVec.or_eq_zero_iff.mp clear).2 caused

theorem finish_noTraps {r : Result π Unit} (quiet : r.NoTraps) : LeavesNoTraps (finish M r) := by
  cases r with
  | ok u s => exact complete_noTraps_of_noTraps quiet
  | raised k va m s => exact dispatchFault_noTraps quiet k va m
  | stopped c => exact leavesNoTraps_fault c

/-! ### One lemma per shape of instruction -/

variable {s : State π} (quiet : s.NoTraps)
include quiet

theorem writeInt_advance_noTraps (r : Reg) (v : Word) : LeavesNoTraps (complete M (s.writeInt r v).advance) :=
  complete_noTraps_of_noTraps (quiet.writeInt r v)

/-- An overflow trap is recorded after the write, and delivered at the end (R202, R426). -/
theorem writeInt_trapIovIf_noTraps (r rc : Reg) (v : Word) (overflow : Bool) :
    LeavesNoTraps (complete M ((s.writeInt r v).trapIovIf overflow rc).advance) := by
  cases overflow with
  | true => exact complete_trap_noTraps (s.writeInt r v).advance (by decide) (rc.setWidth 6)
  | false => exact writeInt_advance_noTraps quiet r v

theorem conditionalMove_noTraps (t : IntTest) (ra : Reg) (b : Operand) (rc : Reg) :
    LeavesNoTraps (conditionalMove M t ra b rc s) := by
  unfold conditionalMove
  split
  · exact writeInt_advance_noTraps quiet rc _
  · exact complete_noTraps_of_noTraps quiet.advance

theorem branchIf_noTraps (t : IntTest) (ra : Reg) (disp : BitVec 21) : LeavesNoTraps (branchIf M t ra disp s) := by
  unfold branchIf
  split
  · exact complete_noTraps_of_noTraps quiet
  · exact complete_noTraps_of_noTraps quiet.advance

theorem fpBranchIf_noTraps (t : FpTest) (fa : Reg) (disp : BitVec 21) : LeavesNoTraps (fpBranchIf M t fa disp s) := by
  refine finish_noTraps ((test_noTraps quiet _ _ _).andThen fun _ s' enabled => ?_)
  split
  · exact enabled
  · exact enabled.advance

theorem branchLink_noTraps (ra : Reg) (disp : BitVec 21) : LeavesNoTraps (branchLink M ra disp s) :=
  complete_noTraps_of_noTraps (State.NoTraps.writeInt (s := s.pushPc s.pc) quiet ra _)

theorem jumpLink_noTraps (ra rb : Reg) : LeavesNoTraps (jumpLink M ra rb s) :=
  complete_noTraps_of_noTraps (State.NoTraps.writeInt (s := s.pushPc s.pc) quiet ra _)

theorem loadInt_noTraps (w : Width) (extend : Word → Word) (ra : Reg) (ea : Word) :
    LeavesNoTraps (finish M (loadInt M w extend ra ea s)) :=
  finish_noTraps ((alignedRead_noTraps quiet ea w).andThen fun _ _ done => done.writeInt ra _)

theorem loadLocked_noTraps (w : Width) (extend : Word → Word) (ra : Reg) (ea : Word) :
    LeavesNoTraps (finish M (loadLocked M w extend ra ea s)) :=
  finish_noTraps ((alignedRead_noTraps quiet ea w).andThen fun _ _ done => done.writeInt ra _)

theorem storeInt_noTraps (w : Width) (ra : Reg) (ea : Word) : LeavesNoTraps (finish M (storeInt M w ra ea s)) :=
  finish_noTraps ((alignedWrite_noTraps quiet ea w _).andThen fun _ _ done => done.advance)

theorem storeConditional_noTraps (w : Width) (ra : Reg) (ea : Word) :
    LeavesNoTraps (finish M (storeConditional M w ra ea s)) := by
  refine finish_noTraps ?_
  unfold storeConditional
  split
  · exact (alignedWrite_noTraps quiet ea w _).andThen fun _ _ done => done.concludeStore ra true
  · exact quiet.concludeStore ra false

theorem loadFp_noTraps (w : Width) (expand : Word → Word) (fa rb : Reg) (disp : BitVec 16) :
    LeavesNoTraps (finish M (loadFp M w expand fa rb disp s)) :=
  finish_noTraps ((test_noTraps quiet _ _ _).andThen fun _ _ enabled =>
    (alignedRead_noTraps enabled _ w).andThen fun _ _ done => done.writeFp fa _)

theorem storeFp_noTraps (w : Width) (pack : Word → Word) (fa rb : Reg) (disp : BitVec 16) :
    LeavesNoTraps (finish M (storeFp M w pack fa rb disp s)) :=
  finish_noTraps ((test_noTraps quiet _ _ _).andThen fun _ _ enabled =>
    (alignedWrite_noTraps enabled _ w _).andThen fun _ _ done => done.advance)

/-- The traps an operation reports are recorded where there is one, and delivered at the end (R351, R426). -/
theorem applyFp_noTraps (fc : Reg) (a : FpAnswer) : LeavesNoTraps (finish M (applyFp fc a s)) := by
  cases a with
  | reserved | badOperand => exact finish_noTraps (raise_noTraps quiet _ _)
  | done write fpcr traps =>
    rw [applyFp_done]
    split_ifs with untrapped
    · exact complete_noTraps_of_noTraps (quiet.of_eq (s.fpExecuted_trapSumm ..) (s.fpExecuted_trapMask ..))
    · exact complete_trap_noTraps (s.fpExecuted fc write fpcr) untrapped _

theorem fpOperate_noTraps (op : BitVec 6) (fa fb fc : Reg) (fn : BitVec 11) :
    LeavesNoTraps (fpOperate M op fa fb fc fn s) := by
  unfold fpOperate
  cases enabled : s.fpen with
  | false => rw [requireFp_disabled _ enabled]; exact finish_noTraps (raise_noTraps quiet _ _)
  | true => rw [requireFp_enabled _ enabled]; exact applyFp_noTraps quiet fc _

/-- What the engine does with a callback's answer records no trap (R381). -/
theorem callPal_noTraps (mbz : BitVec 18) (cls : Bool) (n : BitVec 7) : LeavesNoTraps (callPal M mbz cls n s) := by
  unfold callPal
  split_ifs
  · exact finish_noTraps (raise_noTraps quiet _ _)
  · exact finish_noTraps (raise_noTraps quiet _ _)
  · cases ran : (M.personality.executePrivilegedOpcode (BitVec.ofBool cls ++ n) s).run M s with
    | stopped f => exact leavesNoTraps_fault f
    | answered a t =>
      have left : t.NoTraps := run_noTraps quiet ran
      cases a with
      | done | doneAt | again => exact complete_noTraps_of_noTraps left
      | fault k va => exact finish_noTraps (raise_noTraps (s := s.withAccessRecord t) quiet k va)
      | stop code => exact leavesNoTraps_fault _

theorem hwMfpr_noTraps (ra : Reg) (index : BitVec 16) : LeavesNoTraps (execHwMfpr ra index s M) := by
  refine finish_noTraps ((test_noTraps quiet _ _ _).andThen fun _ s' legal => ?_)
  split
  · exact legal.writeInt ra _
  · exact legal

theorem hwMtpr_noTraps (rb : Reg) (index : BitVec 16) : LeavesNoTraps (execHwMtpr rb index s M) :=
  finish_noTraps ((test_noTraps quiet _ _ _).andThen fun _ _ legal =>
    (iprWrite_noTraps legal index _).andThen fun _ _ written => written.advance)

theorem hwRei_noTraps (rs : Bool) (mbz : BitVec 15) : LeavesNoTraps (execHwRei rs mbz s M) := by
  refine finish_noTraps ((test_noTraps quiet _ _ _).andThen fun _ s' legal => ?_)
  split
  · exact legal
  · exact legal.returnFromFirmware rs

theorem hwLoad_noTraps (ra rb : Reg) (q : HwQualifiers) (disp : BitVec 10) : (hwLoad M ra rb q disp s).NoTraps :=
  (hwPhys_noTraps quiet q _ .read).andThen fun pa _ placed =>
    (memRead_noTraps placed pa _).andThen fun _ _ done => done.writeInt ra _

theorem hwStore_noTraps (ra rb : Reg) (q : HwQualifiers) (disp : BitVec 10) : (hwStore M ra rb q disp s).NoTraps := by
  unfold hwStore
  split
  · exact quiet.concludeStore ra false
  · refine (hwPhys_noTraps quiet q _ .write).andThen fun pa _ placed =>
      (memWrite_noTraps placed pa _ _).andThen fun _ s' done => ?_
    split
    · exact done.concludeStore ra true
    · exact done.advance

theorem hwLd_noTraps (ra rb : Reg) (q : HwQualifiers) (disp : BitVec 10) : LeavesNoTraps (execHwLd ra rb q disp s M) :=
  finish_noTraps ((test_noTraps quiet _ _ _).andThen fun _ _ legal =>
    (test_noTraps legal _ _ _).andThen fun _ _ passed => hwLoad_noTraps passed ra rb q disp)

theorem hwSt_noTraps (ra rb : Reg) (q : HwQualifiers) (disp : BitVec 10) : LeavesNoTraps (execHwSt ra rb q disp s M) :=
  finish_noTraps ((test_noTraps quiet _ _ _).andThen fun _ _ legal =>
    (test_noTraps legal _ _ _).andThen fun _ _ passed => hwStore_noTraps passed ra rb q disp)

/-! ### No instruction and no step leaves any pending, under any parameters -/

/-- Each instruction by its shape. -/
theorem execUnder_noTraps (M : Setup π) (i : Instr) : LeavesNoTraps (execUnder M i s) := by
  cases i with
  | callPal mbz cls n => exact callPal_noTraps quiet mbz cls n
  | opc01 | opc02 | opc03 | opc04 | opc05 | opc06 | opc07 => exact finish_noTraps (raise_noTraps quiet _ _)
  | lda ra | ldah ra => exact writeInt_advance_noTraps quiet ra _
  | ldbu ra | ldwu ra | ldl ra | ldq ra | ldqU ra => exact loadInt_noTraps quiet _ _ ra _
  | ldlL ra | ldqL ra => exact loadLocked_noTraps quiet _ _ ra _
  | stb ra | stw ra | stl ra | stq ra | stqU ra => exact storeInt_noTraps quiet _ ra _
  | stlC ra | stqC ra => exact storeConditional_noTraps quiet _ ra _
  | addl _ _ rc | s4addl _ _ rc | s8addl _ _ rc | subl _ _ rc | s4subl _ _ rc | s8subl _ _ rc
  | addq _ _ rc | s4addq _ _ rc | s8addq _ _ rc | subq _ _ rc | s4subq _ _ rc | s8subq _ _ rc
  | cmpeq _ _ rc | cmplt _ _ rc | cmple _ _ rc | cmpult _ _ rc | cmpule _ _ rc | cmpbge _ _ rc
  | mull _ _ rc | mulq _ _ rc | umulh _ _ rc
  | and _ _ rc | bic _ _ rc | bis _ _ rc | ornot _ _ rc | xor _ _ rc | eqv _ _ rc | amask _ rc | implver rc
  | sll _ _ rc | srl _ _ rc | sra _ _ rc | zap _ _ rc | zapnot _ _ rc | sextb _ rc | sextw _ rc
  | extbl _ _ rc | extwl _ _ rc | extll _ _ rc | extql _ _ rc | extwh _ _ rc | extlh _ _ rc | extqh _ _ rc
  | insbl _ _ rc | inswl _ _ rc | insll _ _ rc | insql _ _ rc | inswh _ _ rc | inslh _ _ rc | insqh _ _ rc
  | mskbl _ _ rc | mskwl _ _ rc | mskll _ _ rc | mskql _ _ rc | mskwh _ _ rc | msklh _ _ rc | mskqh _ _ rc =>
    exact writeInt_advance_noTraps quiet rc _
  | addlV _ _ rc | sublV _ _ rc | addqV _ _ rc | subqV _ _ rc | mullV _ _ rc | mulqV _ _ rc =>
    exact writeInt_trapIovIf_noTraps quiet rc rc _ _
  | cmovlbs ra b rc | cmovlbc ra b rc | cmoveq ra b rc | cmovne ra b rc | cmovlt ra b rc | cmovge ra b rc
  | cmovle ra b rc | cmovgt ra b rc => exact conditionalMove_noTraps quiet _ ra b rc
  | itfp fa fb fc fn | fltv fa fb fc fn | flti fa fb fc fn | fltl fa fb fc fn => exact fpOperate_noTraps quiet _ fa fb fc fn
  | trapb | excb | mb | wmb | fetch | fetchM | ecb | wh64 => exact complete_noTraps_of_noTraps quiet.advance
  | rpcc ra => exact writeInt_advance_noTraps (s := { s with draws := s.draws + 1 }) quiet ra _
  | rs ra | rc ra => exact complete_noTraps_of_noTraps (quiet.writeInt ra _)
  | jmp ra rb | jsr ra rb | ret ra rb | jsrCoroutine ra rb => exact jumpLink_noTraps quiet ra rb
  | br ra disp | bsr ra disp => exact branchLink_noTraps quiet ra disp
  | blbc ra disp | beq ra disp | blt ra disp | ble ra disp | blbs ra disp | bne ra disp | bge ra disp | bgt ra disp =>
    exact branchIf_noTraps quiet _ ra disp
  | fbeq fa disp | fblt fa disp | fble fa disp | fbne fa disp | fbge fa disp | fbgt fa disp =>
    exact fpBranchIf_noTraps quiet _ fa disp
  | ldf fa rb disp | ldg fa rb disp | lds fa rb disp | ldt fa rb disp => exact loadFp_noTraps quiet _ _ fa rb disp
  | stf fa rb disp | stg fa rb disp | sts fa rb disp | stt fa rb disp => exact storeFp_noTraps quiet _ _ fa rb disp
  | hwMfpr ra index => exact hwMfpr_noTraps quiet ra index
  | hwMtpr rb index => exact hwMtpr_noTraps quiet rb index
  | hwRei rs mbz => exact hwRei_noTraps quiet rs mbz
  | hwLd ra rb q disp => exact hwLd_noTraps quiet ra rb q disp
  | hwSt ra rb q disp => exact hwSt_noTraps quiet ra rb q disp

theorem runWord_noTraps (w : BitVec 32) : LeavesNoTraps (runWord M w s) := by
  unfold runWord
  split
  · exact execUnder_noTraps quiet M _
  · exact finish_noTraps (raise_noTraps quiet _ _)

theorem fetchWord_noTraps : (fetchWord M s).NoTraps := by
  have placed : (fetchAddr M s).NoTraps := by
    unfold fetchAddr
    split
    · exact quiet
    · exact translate_noTraps quiet s.pc .execute s.cm
  exact placed.andThen fun pa _ located => (memRead_noTraps located pa .long).andThen fun _ _ read => read

theorem runInstruction_noTraps : LeavesNoTraps (runInstruction M s) := by
  have read := fetchWord_noTraps (M := M) quiet
  unfold runInstruction
  cases fetched : fetchWord M s with
  | ok w s' => exact runWord_noTraps (read.of_ok fetched) w
  | raised k va m s' => exact dispatchFault_noTraps (read.of_raised fetched) k va m
  | stopped c => exact leavesNoTraps_fault c

theorem boundary_noTraps : LeavesNoTraps (boundary M s) := by
  unfold boundary
  split
  · exact runInstruction_noTraps quiet
  · exact enteredOutcome_noTraps quiet _

/-- The end of the step leaves the trap state alone (R447). -/
theorem endStep_noTraps (M : Setup π) : (s.endStep M).NoTraps := by
  unfold State.endStep State.sampleIrq
  split
  · exact quiet
  · exact quiet

theorem stepUnder_noTraps (M : Setup π) : LeavesNoTraps (stepUnder M s) := by
  have bounded := boundary_noTraps (M := M) quiet
  unfold stepUnder
  cases ended : boundary M s with
  | next t => exact leavesNoTraps_next (endStep_noTraps (bounded t ended) M)
  | fault f => exact leavesNoTraps_fault f
  | refused r => exact leavesNoTraps_refused r

end PendingTraps

/-! ### The statements -/

/-- Settles O7: the evaluator by induction on the levels it scans, the entry by its run under NATIVE. -/
theorem interruptPollAndEntry : Obligations.InterruptPollAndEntry := by
  refine ⟨fun ipl irq => highestPending_greatest ipl irq 31, fun s => pendingLevel_firmware,
    fun s => pendingLevel_native, fun s pending => ?_⟩
  rw [step, stepUnder, boundary_of_pending pending, takeInterrupt_native]
  rfl

/-- Settles O9: what `exc_addr` packs, the sum without a carry, the exchange in its two cases, the frame. -/
theorem entryIntoFirmware : Obligations.EntryIntoFirmware := by
  intro s offset resume low multiple t
  have sum : s.palBase + offset.setWidth 64 = s.palBase ||| offset.setWidth 64 :=
    BitVec.add_eq_or_of_and_eq_zero _ _ (base_and_offset_eq_zero offset low)
  have target : t.pc = s.palBase ||| offset.setWidth 64 := by
    rw [enterFirmware_pc, sum, alignPc_entry low multiple]
  have recorded : t.excAddr = packExcAddr resume s.palMode := enterFirmware_excAddr s offset resume
  refine ⟨?_, ?_, ?_, enterFirmware_palMode s offset resume, target.trans sum.symm, target,
    enterFirmware_exchanged offset resume, enterFirmware_not_exchanged offset resume, enterFirmware_readInt_other s offset resume,
    enterFirmware_frame s offset resume, memoryKept_of_mem (State.enterFirmware_mem s offset resume)⟩
  · rw [recorded, packExcAddr_high]
  · rw [recorded, packExcAddr_bit1]
  · rw [recorded, packExcAddr_bit0]

/-- Settles O13: delivery by the end of an instruction under NATIVE, the rest by the invariant `State.NoTraps`. -/
theorem trapsDeliveredAtEnd : Obligations.TrapsDeliveredAtEnd := by
  refine ⟨fun s pending => finish_trap rfl pending, fun summ mask resume s => rfl, fun i s t summ mask ended => ?_,
    fun s t summ mask ended => stepUnder_noTraps ⟨summ, mask⟩ nativeSetup t ended⟩
  exact execUnder_noTraps ⟨summ, mask⟩ nativeSetup i t ((exec_eq_execUnder i s).symm.trans ended)

end Sys2Proof.Machine

/-! ## Proofs of the statements about encoding (30_encoding section 2, 4, 5) -/

namespace Sys2Proof.Machine

section Encoding

/-! ### The fields of an encoded word -/

/-- A bit above the low part of a concatenation is a bit of the high part. -/
theorem getLsbD_high {m n : Nat} (a : BitVec m) (b : BitVec n) (i : Nat) (above : n ≤ i) :
    (a ++ b).getLsbD i = a.getLsbD (i - n) := by
  rw [BitVec.getLsbD_append, if_neg (by omega)]

/-- A one-bit field is its flag. -/
theorem getLsbD_flag {m : Nat} (a : BitVec m) (flag : Bool) : (a ++ BitVec.ofBool flag).getLsbD 0 = flag := by
  rw [BitVec.getLsbD_append, if_pos Nat.one_pos]
  cases flag <;> rfl

section
variable (op : BitVec 6) (ra rb rc : Reg)

theorem fieldRa_encMem (d : BitVec 16) : fieldRa (encMem op ra rb d) = ra := by
  rw [fieldRa, encMem, extract_high _ _ _ _ (by decide), extract_high _ _ _ _ (by decide),
    extract_low _ _ _ _ (by decide), extract_whole]

theorem fieldRb_encMem (d : BitVec 16) : fieldRb (encMem op ra rb d) = rb := by
  rw [fieldRb, encMem, extract_high _ _ _ _ (by decide), extract_low _ _ _ _ (by decide), extract_whole]

theorem fieldDisp16_encMem (d : BitVec 16) : fieldDisp16 (encMem op ra rb d) = d := by
  rw [fieldDisp16, encMem, extract_low _ _ _ _ (by decide), extract_whole]

theorem fieldRa_encBra (d : BitVec 21) : fieldRa (encBra op ra d) = ra := by
  rw [fieldRa, encBra, extract_high _ _ _ _ (by decide), extract_low _ _ _ _ (by decide), extract_whole]

theorem fieldDisp21_encBra (d : BitVec 21) : fieldDisp21 (encBra op ra d) = d := by
  rw [fieldDisp21, encBra, extract_low _ _ _ _ (by decide), extract_whole]

theorem fieldRc_encOpr (fn : BitVec 7) (b : Operand) : fieldRc (encOpr op fn ra b rc) = rc := by
  cases b <;> rw [fieldRc, encOpr, extract_low _ _ _ _ (by decide), extract_whole]

theorem fieldFn7_encOpr (fn : BitVec 7) (b : Operand) : fieldFn7 (encOpr op fn ra b rc) = fn := by
  cases b <;>
    rw [fieldFn7, encOpr, extract_high _ _ _ _ (by decide), extract_low _ _ _ _ (by decide), extract_whole]

theorem fieldOperand_encOpr (fn : BitVec 7) (b : Operand) : fieldOperand (encOpr op fn ra b rc) = b := by
  cases b with
  | reg rb =>
    have form : (encOpr op fn ra (.reg rb) rc).getLsbD 12 = false := by
      rw [encOpr, getLsbD_high _ _ _ (by decide), getLsbD_high _ _ _ (by decide)]
      exact getLsbD_flag _ false
    have register : fieldRb (encOpr op fn ra (.reg rb) rc) = rb := by
      rw [fieldRb, encOpr, extract_high _ _ _ _ (by decide), extract_high _ _ _ _ (by decide),
        extract_high _ _ _ _ (by decide), extract_high _ _ _ _ (by decide), extract_low _ _ _ _ (by decide), extract_whole]
    rw [fieldOperand, form, register]
    rfl
  | lit v =>
    have form : (encOpr op fn ra (.lit v) rc).getLsbD 12 = true := by
      rw [encOpr, getLsbD_high _ _ _ (by decide), getLsbD_high _ _ _ (by decide)]
      exact getLsbD_flag _ true
    have literal : (encOpr op fn ra (.lit v) rc).extractLsb' 13 8 = v := by
      rw [encOpr, extract_high _ _ _ _ (by decide), extract_high _ _ _ _ (by decide),
        extract_high _ _ _ _ (by decide), extract_low _ _ _ _ (by decide), extract_whole]
    rw [fieldOperand, form, literal]
    rfl

theorem fieldRa_encOpr (fn : BitVec 7) (b : Operand) : fieldRa (encOpr op fn ra b rc) = ra := by
  cases b with
  | reg rb =>
    rw [fieldRa, encOpr, extract_high _ _ _ _ (by decide), extract_high _ _ _ _ (by decide),
      extract_high _ _ _ _ (by decide), extract_high _ _ _ _ (by decide), extract_high _ _ _ _ (by decide),
      extract_low _ _ _ _ (by decide), extract_whole]
  | lit v =>
    rw [fieldRa, encOpr, extract_high _ _ _ _ (by decide), extract_high _ _ _ _ (by decide),
      extract_high _ _ _ _ (by decide), extract_high _ _ _ _ (by decide), extract_low _ _ _ _ (by decide), extract_whole]

theorem fieldRa_encFpo (fn : BitVec 11) : fieldRa (encFpo op ra rb rc fn) = ra := by
  rw [fieldRa, encFpo, extract_high _ _ _ _ (by decide), extract_high _ _ _ _ (by decide), extract_high _ _ _ _ (by decide),
    extract_low _ _ _ _ (by decide), extract_whole]

theorem fieldRb_encFpo (fn : BitVec 11) : fieldRb (encFpo op ra rb rc fn) = rb := by
  rw [fieldRb, encFpo, extract_high _ _ _ _ (by decide), extract_high _ _ _ _ (by decide), extract_low _ _ _ _ (by decide),
    extract_whole]

theorem fieldRc_encFpo (fn : BitVec 11) : fieldRc (encFpo op ra rb rc fn) = rc := by
  rw [fieldRc, encFpo, extract_low _ _ _ _ (by decide), extract_whole]

theorem fieldFn11_encFpo (fn : BitVec 11) : fieldFn11 (encFpo op ra rb rc fn) = fn := by
  rw [fieldFn11, encFpo, extract_high _ _ _ _ (by decide), extract_low _ _ _ _ (by decide), extract_whole]

theorem jumpType_encJmp (ty : BitVec 2) : (encJmp ty ra rb).extractLsb' 14 2 = ty := by
  rw [encJmp, extract_high _ _ _ _ (by decide), extract_low _ _ _ _ (by decide), extract_whole]

theorem fieldRa_encJmp (ty : BitVec 2) : fieldRa (encJmp ty ra rb) = ra := by
  rw [fieldRa, encJmp, extract_high _ _ _ _ (by decide), extract_high _ _ _ _ (by decide), extract_high _ _ _ _ (by decide),
    extract_low _ _ _ _ (by decide), extract_whole]

theorem fieldRb_encJmp (ty : BitVec 2) : fieldRb (encJmp ty ra rb) = rb := by
  rw [fieldRb, encJmp, extract_high _ _ _ _ (by decide), extract_high _ _ _ _ (by decide), extract_low _ _ _ _ (by decide),
    extract_whole]

/-- The flags of the hardware memory format, above the displacement. -/
theorem getLsbD_encHwm (q : HwQualifiers) (d : BitVec 10) (i : Nat) (above : 10 ≤ i) :
    (encHwm op ra rb q d).getLsbD i =
      (op ++ ra ++ rb ++ BitVec.ofBool q.phys ++ BitVec.ofBool q.alt ++ BitVec.ofBool q.mbz13 ++ BitVec.ofBool q.quad ++
        BitVec.ofBool q.mbz11 ++ BitVec.ofBool q.lock).getLsbD (i - 10) := getLsbD_high _ d i above

theorem fieldQualifiers_encHwm (q : HwQualifiers) (d : BitVec 10) : fieldQualifiers (encHwm op ra rb q d) = q := by
  obtain ⟨phys, alt, mbz13, quad, mbz11, lock⟩ := q
  rw [fieldQualifiers]
  congr 1
  · rw [getLsbD_encHwm _ _ _ _ _ _ (by decide), getLsbD_high _ _ _ (by decide), getLsbD_high _ _ _ (by decide),
      getLsbD_high _ _ _ (by decide), getLsbD_high _ _ _ (by decide), getLsbD_high _ _ _ (by decide)]
    exact getLsbD_flag _ _
  · rw [getLsbD_encHwm _ _ _ _ _ _ (by decide), getLsbD_high _ _ _ (by decide), getLsbD_high _ _ _ (by decide),
      getLsbD_high _ _ _ (by decide), getLsbD_high _ _ _ (by decide)]
    exact getLsbD_flag _ _
  · rw [getLsbD_encHwm _ _ _ _ _ _ (by decide), getLsbD_high _ _ _ (by decide), getLsbD_high _ _ _ (by decide),
      getLsbD_high _ _ _ (by decide)]
    exact getLsbD_flag _ _
  · rw [getLsbD_encHwm _ _ _ _ _ _ (by decide), getLsbD_high _ _ _ (by decide), getLsbD_high _ _ _ (by decide)]
    exact getLsbD_flag _ _
  · rw [getLsbD_encHwm _ _ _ _ _ _ (by decide), getLsbD_high _ _ _ (by decide)]
    exact getLsbD_flag _ _
  · rw [getLsbD_encHwm _ _ _ _ _ _ (by decide)]
    exact getLsbD_flag _ _


theorem fieldDisp10_encHwm (q : HwQualifiers) (d : BitVec 10) : fieldDisp10 (encHwm op ra rb q d) = d := by
  rw [fieldDisp10, encHwm, extract_low _ _ _ _ (by decide), extract_whole]

theorem fieldRb_encHwm (q : HwQualifiers) (d : BitVec 10) : fieldRb (encHwm op ra rb q d) = rb := by
  rw [fieldRb, encHwm, extract_high _ _ _ _ (by decide), extract_high _ _ _ _ (by decide), extract_high _ _ _ _ (by decide),
    extract_high _ _ _ _ (by decide), extract_high _ _ _ _ (by decide), extract_high _ _ _ _ (by decide),
    extract_high _ _ _ _ (by decide), extract_low _ _ _ _ (by decide), extract_whole]

theorem fieldRa_encHwm (q : HwQualifiers) (d : BitVec 10) : fieldRa (encHwm op ra rb q d) = ra := by
  rw [fieldRa, encHwm, extract_high _ _ _ _ (by decide), extract_high _ _ _ _ (by decide), extract_high _ _ _ _ (by decide),
    extract_high _ _ _ _ (by decide), extract_high _ _ _ _ (by decide), extract_high _ _ _ _ (by decide),
    extract_high _ _ _ _ (by decide), extract_high _ _ _ _ (by decide), extract_low _ _ _ _ (by decide), extract_whole]

end

/-! ### One lemma per format: decoding undoes encoding -/

section
variable {op : BitVec 6}

/-- The memory format, and the memory-function format where the function is an operand (R133, R139). -/
theorem decode_encMem {mk : Reg → Reg → BitVec 16 → Instr}
    (row : ∀ w, decodeMajor op.toNat w = .ok (mk (fieldRa w) (fieldRb w) (fieldDisp16 w))) (ra rb : Reg) (d : BitVec 16) :
    decode (encMem op ra rb d) = .ok (mk ra rb d) := by
  rw [decode_major (fieldOp_encMem op ra rb d), row, fieldRa_encMem, fieldRb_encMem, fieldDisp16_encMem]

theorem decode_encBra {mk : Reg → BitVec 21 → Instr}
    (row : ∀ w, decodeMajor op.toNat w = .ok (mk (fieldRa w) (fieldDisp21 w))) (ra : Reg) (d : BitVec 21) :
    decode (encBra op ra d) = .ok (mk ra d) := by
  rw [decode_major (fieldOp_encBra op ra d), row, fieldRa_encBra, fieldDisp21_encBra]

/-- The operate format, by its row of the group's function table (R135, R143 to R146). -/
theorem decode_encOpr {fn : BitVec 7} {ra : Reg} {b : Operand} {rc : Reg} {i : Instr}
    (table : Nat → Reg → Operand → Reg → Option Instr) (major : ∀ w, decodeMajor op.toNat w = decodeOperate table w)
    (row : table fn.toNat ra b rc = some i) : decode (encOpr op fn ra b rc) = .ok i := by
  rw [decode_major (fieldOp_encOpr op ra rc fn b), major, decodeOperate, fieldFn7_encOpr, fieldRa_encOpr, fieldOperand_encOpr,
    fieldRc_encOpr, row]
  rfl

theorem decode_encFpo {mk : Reg → Reg → Reg → BitVec 11 → Instr}
    (row : ∀ w, decodeMajor op.toNat w = .ok (mk (fieldRa w) (fieldRb w) (fieldRc w) (fieldFn11 w))) (fa fb fc : Reg)
    (fn : BitVec 11) : decode (encFpo op fa fb fc fn) = .ok (mk fa fb fc fn) := by
  rw [decode_major (fieldOp_encFpo op fa fb fc fn), row, fieldRa_encFpo, fieldRb_encFpo, fieldRc_encFpo, fieldFn11_encFpo]

/-- Opcode 0x18, by its row of the function table (R138, R147). -/
theorem decode_encMfc {fn : BitVec 16} {ra rb : Reg} {i : Instr} (row : decodeMisc fn.toNat ra rb = some i) :
    decode (encMfc 0x18 ra rb fn) = .ok i := by
  have fields : fieldDisp16 (encMfc 0x18 ra rb fn) = fn ∧ fieldRa (encMfc 0x18 ra rb fn) = ra ∧
      fieldRb (encMfc 0x18 ra rb fn) = rb :=
    ⟨fieldDisp16_encMem _ _ _ _, fieldRa_encMem _ _ _ _, fieldRb_encMem _ _ _ _⟩
  obtain ⟨function, first, second⟩ := fields
  rw [decode_major (fieldOp_encMfc 0x18 ra rb fn)]
  show listed _ _ (decodeMisc (fieldDisp16 _).toNat _ _) = _
  rw [function, first, second, row]
  rfl

theorem decode_encJmp (ty : BitVec 2) (ra rb : Reg) : decode (encJmp ty ra rb) = .ok (decodeJump ty ra rb) := by
  rw [decode_major (fieldOp_encJmp ra rb ty)]
  show Except.ok (decodeJump ((encJmp ty ra rb).extractLsb' 14 2) _ _) = _
  rw [jumpType_encJmp, fieldRa_encJmp, fieldRb_encJmp]

theorem decode_encHwm {mk : Reg → Reg → HwQualifiers → BitVec 10 → Instr}
    (row : ∀ w, decodeMajor op.toNat w = .ok (mk (fieldRa w) (fieldRb w) (fieldQualifiers w) (fieldDisp10 w))) (ra rb : Reg)
    (q : HwQualifiers) (d : BitVec 10) : decode (encHwm op ra rb q d) = .ok (mk ra rb q d) := by
  rw [decode_major (fieldOp_encHwm op ra rb q d), row, fieldRa_encHwm, fieldRb_encHwm, fieldQualifiers_encHwm,
    fieldDisp10_encHwm]

end

theorem callPal_fields (mbz : BitVec 18) (cls : Bool) (n : BitVec 7) :
    fieldOp (encode (.callPal mbz cls n)) = 0x00 ∧ (encode (.callPal mbz cls n)).extractLsb' 8 18 = mbz ∧
      (encode (.callPal mbz cls n)).getLsbD 7 = cls ∧ (encode (.callPal mbz cls n)).extractLsb' 0 7 = n := by
  rw [encode]
  refine ⟨?_, ?_, ?_, ?_⟩
  · rw [fieldOp, extract_high _ _ _ _ (by decide), extract_high _ _ _ _ (by decide), extract_high _ _ _ _ (by decide),
      extract_whole]
    rfl
  · rw [extract_high _ _ _ _ (by decide), extract_high _ _ _ _ (by decide), extract_low _ _ _ _ (by decide), extract_whole]
  · rw [getLsbD_high _ _ _ (by decide)]
    exact getLsbD_flag _ _
  · rw [extract_low _ _ _ _ (by decide), extract_whole]

theorem hwRei_fields (rs : Bool) (mbz : BitVec 15) :
    fieldOp (encode (.hwRei rs mbz)) = 0x1E ∧ (encode (.hwRei rs mbz)).getLsbD 15 = rs ∧
      (encode (.hwRei rs mbz)).extractLsb' 0 15 = mbz := by
  rw [encode]
  refine ⟨?_, ?_, ?_⟩
  · rw [fieldOp, extract_high _ _ _ _ (by decide), extract_high _ _ _ _ (by decide), extract_high _ _ _ _ (by decide),
      extract_whole]
    rfl
  · rw [getLsbD_high _ _ _ (by decide)]
    exact getLsbD_flag _ _
  · rw [extract_low _ _ _ _ (by decide), extract_whole]

theorem decode_encode_callPal (mbz : BitVec 18) (cls : Bool) (n : BitVec 7) :
    decode (encode (.callPal mbz cls n)) = .ok (.callPal mbz cls n) := by
  obtain ⟨opcode, zeros, unprivileged, function⟩ := callPal_fields mbz cls n
  rw [decode_major opcode]
  show Except.ok (Instr.callPal _ _ _) = _
  rw [zeros, unprivileged, function]

theorem decode_encode_hwRei (rs : Bool) (mbz : BitVec 15) : decode (encode (.hwRei rs mbz)) = .ok (.hwRei rs mbz) := by
  obtain ⟨opcode, shadow, zeros⟩ := hwRei_fields rs mbz
  rw [decode_major opcode]
  show Except.ok (Instr.hwRei _ _) = _
  rw [shadow, zeros]

end Encoding

section Reencoding

/-! ### Words that agree on the fields that are read -/

/-- Two words have the same bits in each of some fields, each given by its lowest bit and its width. -/
def AgreeOn (fields : List (Nat × Nat)) (a b : BitVec 32) : Prop :=
  ∀ f ∈ fields, a.extractLsb' f.1 f.2 = b.extractLsb' f.1 f.2

theorem getLsbD_of_extract_eq {a b : BitVec 32} {lo n i : Nat} (same : a.extractLsb' lo n = b.extractLsb' lo n)
    (low : lo ≤ i) (high : i < lo + n) : a.getLsbD i = b.getLsbD i := by
  have bit := congrArg (·.getLsbD (i - lo)) same
  simpa [BitVec.getLsbD_extractLsb', show i - lo < n by omega, Nat.add_sub_cancel' low] using bit

/-- Words that agree on fields that cover every bit but those of a mask are the same outside the mask. -/
theorem and_not_eq_of_agreeOn {fields : List (Nat × Nat)} {a b mask : BitVec 32} (same : AgreeOn fields a b)
    (cover : ∀ i : Fin 32, mask.getLsbD i = true ∨ ∃ f ∈ fields, f.1 ≤ i.val ∧ i.val < f.1 + f.2) :
    a &&& ~~~mask = b &&& ~~~mask := by
  refine BitVec.eq_of_getLsbD_eq fun i hi => ?_
  rw [BitVec.getLsbD_and, BitVec.getLsbD_and, BitVec.getLsbD_not]
  rcases cover ⟨i, hi⟩ with masked | ⟨f, hf, low, high⟩
  · simp [show mask.getLsbD i = true from masked]
  · rw [getLsbD_of_extract_eq (same f hf) low high]

/-- The encoder writes a word again for the instruction, but for the bits that are ignored. -/
def RecoversWord (w : BitVec 32) (i : Instr) : Prop := encode i &&& ~~~ignoredBits i = w &&& ~~~ignoredBits i

/-! ### One lemma per format: encoding undoes decoding -/

variable {w : BitVec 32} {i : Instr}

theorem recovers_encMem {op : BitVec 6} (opcode : fieldOp w = op)
    (shape : encode i = encMem op (fieldRa w) (fieldRb w) (fieldDisp16 w)) (ignored : ignoredBits i = 0) :
    RecoversWord w i := by
  have same : AgreeOn [(26, 6), (21, 5), (16, 5), (0, 16)] (encode i) w := by
    simp only [AgreeOn, List.forall_mem_cons, shape]
    exact ⟨(fieldOp_encMem ..).trans opcode.symm, fieldRa_encMem .., fieldRb_encMem .., fieldDisp16_encMem .., by simp⟩
  rw [RecoversWord, ignored]
  exact and_not_eq_of_agreeOn same (by decide)

/-- The memory-function and internal-register formats, where a register field may be ignored (R156). -/
theorem recovers_encMfc {op : BitVec 6} {ra rb : Reg} (fields : List (Nat × Nat)) (mask : BitVec 32) (opcode : fieldOp w = op)
    (shape : encode i = encMfc op ra rb (fieldDisp16 w))
    (registers : AgreeOn fields (encMfc op ra rb (fieldDisp16 w)) w)
    (ignored : ignoredBits i = mask)
    (cover : ∀ j : Fin 32, mask.getLsbD j = true ∨
      ∃ f ∈ (26, 6) :: (0, 16) :: fields, f.1 ≤ j.val ∧ j.val < f.1 + f.2) : RecoversWord w i := by
  have same : AgreeOn ((26, 6) :: (0, 16) :: fields) (encode i) w := by
    simp only [AgreeOn, List.forall_mem_cons, shape]
    exact ⟨(fieldOp_encMem ..).trans opcode.symm, fieldDisp16_encMem .., registers⟩
  rw [RecoversWord, ignored]
  exact and_not_eq_of_agreeOn same cover

theorem recovers_encBra {op : BitVec 6} (opcode : fieldOp w = op)
    (shape : encode i = encBra op (fieldRa w) (fieldDisp21 w)) (ignored : ignoredBits i = 0) : RecoversWord w i := by
  have same : AgreeOn [(26, 6), (21, 5), (0, 21)] (encode i) w := by
    simp only [AgreeOn, List.forall_mem_cons, shape]
    exact ⟨(fieldOp_encBra ..).trans opcode.symm, fieldRa_encBra .., fieldDisp21_encBra .., by simp⟩
  rw [RecoversWord, ignored]
  exact and_not_eq_of_agreeOn same (by decide)

theorem recovers_encFpo {op : BitVec 6} (opcode : fieldOp w = op)
    (shape : encode i = encFpo op (fieldRa w) (fieldRb w) (fieldRc w) (fieldFn11 w)) (ignored : ignoredBits i = 0) :
    RecoversWord w i := by
  have same : AgreeOn [(26, 6), (21, 5), (16, 5), (5, 11), (0, 5)] (encode i) w := by
    simp only [AgreeOn, List.forall_mem_cons, shape]
    exact ⟨(fieldOp_encFpo ..).trans opcode.symm, fieldRa_encFpo .., fieldRb_encFpo .., fieldFn11_encFpo ..,
      fieldRc_encFpo .., by simp⟩
  rw [RecoversWord, ignored]
  exact and_not_eq_of_agreeOn same (by decide)

theorem extract_one_of_getLsbD_eq {a b : BitVec 32} {j : Nat} (same : a.getLsbD j = b.getLsbD j) :
    a.extractLsb' j 1 = b.extractLsb' j 1 := by
  refine BitVec.eq_of_getLsbD_eq fun k hk => ?_
  obtain rfl : k = 0 := by omega
  simpa [BitVec.getLsbD_extractLsb'] using same

theorem recovers_encHwm {op : BitVec 6} (opcode : fieldOp w = op)
    (shape : encode i = encHwm op (fieldRa w) (fieldRb w) (fieldQualifiers w) (fieldDisp10 w)) (ignored : ignoredBits i = 0) :
    RecoversWord w i := by
  have flags : fieldQualifiers (encode i) = fieldQualifiers w := shape ▸ fieldQualifiers_encHwm ..
  obtain ⟨phys, alt, mbz13, quad, mbz11, lock⟩ := HwQualifiers.mk.inj flags
  have same : AgreeOn [(26, 6), (21, 5), (16, 5), (15, 1), (14, 1), (13, 1), (12, 1), (11, 1), (10, 1), (0, 10)]
      (encode i) w := by
    simp only [AgreeOn, List.forall_mem_cons]
    refine ⟨?_, ?_, ?_, extract_one_of_getLsbD_eq phys, extract_one_of_getLsbD_eq alt, extract_one_of_getLsbD_eq mbz13,
      extract_one_of_getLsbD_eq quad, extract_one_of_getLsbD_eq mbz11, extract_one_of_getLsbD_eq lock, ?_, by simp⟩ <;>
      rw [shape]
    · exact (fieldOp_encHwm ..).trans opcode.symm
    · exact fieldRa_encHwm ..
    · exact fieldRb_encHwm ..
    · exact fieldDisp10_encHwm ..
  rw [RecoversWord, ignored]
  exact and_not_eq_of_agreeOn same (by decide)

theorem recovers_encJmp {ty : BitVec 2} (opcode : fieldOp w = 0x1A) (type : w.extractLsb' 14 2 = ty)
    (shape : encode i = encJmp ty (fieldRa w) (fieldRb w)) (ignored : ignoredBits i = 0x00003FFF) : RecoversWord w i := by
  have same : AgreeOn [(26, 6), (21, 5), (16, 5), (14, 2)] (encode i) w := by
    simp only [AgreeOn, List.forall_mem_cons, shape]
    exact ⟨(fieldOp_encJmp ..).trans opcode.symm, fieldRa_encJmp .., fieldRb_encJmp .., (jumpType_encJmp ..).trans type.symm,
      by simp⟩
  rw [RecoversWord, ignored]
  exact and_not_eq_of_agreeOn same (by decide)

/-! ### The operate format (R135, R141) -/

/-- The fields that an operand is read from: the form, then the register or the literal. -/
def operandFields : Operand → List (Nat × Nat)
  | .reg _ => [(12, 1), (16, 5)]
  | .lit _ => [(12, 1), (13, 8)]

theorem agreeOn_operandFields {a : BitVec 32} (same : fieldOperand a = fieldOperand w) :
    AgreeOn (operandFields (fieldOperand w)) a w := by
  simp only [fieldOperand] at same ⊢
  split_ifs at same ⊢ with first second
  · simp only [operandFields, AgreeOn, List.forall_mem_cons]
    exact ⟨extract_one_of_getLsbD_eq (second.trans first.symm), Operand.lit.inj same, by simp⟩
  · simp only [operandFields, AgreeOn, List.forall_mem_cons]
    exact ⟨extract_one_of_getLsbD_eq (by simp_all), Operand.reg.inj same, by simp⟩

/-- The fields of an encoded operate word, its first register aside. -/
theorem agreeOn_encOpr {op : BitVec 6} {fn : BitVec 7} (ra : Reg) (opcode : fieldOp w = op) (function : fieldFn7 w = fn) :
    AgreeOn ([(26, 6), (5, 7), (0, 5)] ++ operandFields (fieldOperand w))
      (encOpr op fn ra (fieldOperand w) (fieldRc w)) w := by
  simp only [AgreeOn, List.cons_append, List.nil_append, List.forall_mem_cons]
  exact ⟨(fieldOp_encOpr ..).trans opcode.symm, (fieldFn7_encOpr ..).trans function.symm, fieldRc_encOpr ..,
    agreeOn_operandFields (fieldOperand_encOpr ..)⟩

theorem recovers_encOpr {op : BitVec 6} {fn : BitVec 7} (opcode : fieldOp w = op) (function : fieldFn7 w = fn)
    (shape : encode i = encOpr op fn (fieldRa w) (fieldOperand w) (fieldRc w))
    (ignored : ignoredBits i = operandIgnored (fieldOperand w)) : RecoversWord w i := by
  have same : AgreeOn ((21, 5) :: ([(26, 6), (5, 7), (0, 5)] ++ operandFields (fieldOperand w))) (encode i) w := by
    rw [AgreeOn, List.forall_mem_cons, shape]
    exact ⟨fieldRa_encOpr .., agreeOn_encOpr _ opcode function⟩
  rw [RecoversWord, ignored]
  refine and_not_eq_of_agreeOn same ?_
  cases fieldOperand w <;> simp only [operandIgnored, operandFields] <;> decide

/-- The rows that ignore their first register (R156). -/
theorem recovers_encOpr_without_ra {op : BitVec 6} {fn : BitVec 7} {ra : Reg} (opcode : fieldOp w = op)
    (function : fieldFn7 w = fn) (shape : encode i = encOpr op fn ra (fieldOperand w) (fieldRc w))
    (ignored : ignoredBits i = 0x03E00000 ||| operandIgnored (fieldOperand w)) : RecoversWord w i := by
  have same := agreeOn_encOpr ra opcode function
  rw [← shape] at same
  rw [RecoversWord, ignored]
  refine and_not_eq_of_agreeOn same ?_
  cases fieldOperand w <;> simp only [operandIgnored, operandFields] <;> decide

theorem recovers_implver (opcode : fieldOp w = 0x11) (function : fieldFn7 w = 0x6C) :
    RecoversWord w (.implver (fieldRc w)) := by
  have same : AgreeOn [(26, 6), (5, 7), (0, 5)] (encode (.implver (fieldRc w))) w := by
    simp only [AgreeOn, List.forall_mem_cons]
    exact ⟨(fieldOp_encOpr ..).trans opcode.symm, (fieldFn7_encOpr ..).trans function.symm, fieldRc_encOpr .., by simp⟩
  rw [RecoversWord, show ignoredBits (.implver (fieldRc w)) = 0x03FFF000 from rfl]
  exact and_not_eq_of_agreeOn same (by decide)

/-! ### The function tables, row by row (R143 to R147) -/

/-- The row of a function table that a word's function field selects. -/
def tableRow (table : Nat → Reg → Operand → Reg → Option Instr) (w : BitVec 32) : Option Instr :=
  table (fieldFn7 w).toNat (fieldRa w) (fieldOperand w) (fieldRc w)

theorem recovers_decodeArith (opcode : fieldOp w = 0x10) (row : tableRow decodeArith w = some i) : RecoversWord w i := by
  unfold tableRow decodeArith at row
  split at row
  case h_23 => cases row
  all_goals
    cases row
    exact recovers_encOpr opcode (BitVec.eq_of_toNat_eq (by assumption)) rfl rfl

theorem recovers_decodeLogical (opcode : fieldOp w = 0x11) (row : tableRow decodeLogical w = some i) : RecoversWord w i := by
  unfold tableRow decodeLogical at row
  split at row
  case h_13 =>
    cases row
    exact recovers_encOpr_without_ra opcode (BitVec.eq_of_toNat_eq (by assumption)) rfl rfl
  case h_16 function =>
    cases row
    exact recovers_implver opcode (BitVec.eq_of_toNat_eq function)
  case h_17 => cases row
  all_goals
    cases row
    exact recovers_encOpr opcode (BitVec.eq_of_toNat_eq (by assumption)) rfl rfl

theorem recovers_decodeShift (opcode : fieldOp w = 0x12) (row : tableRow decodeShift w = some i) : RecoversWord w i := by
  unfold tableRow decodeShift at row
  split at row
  case h_27 => cases row
  all_goals
    cases row
    exact recovers_encOpr opcode (BitVec.eq_of_toNat_eq (by assumption)) rfl rfl

theorem recovers_decodeMultiply (opcode : fieldOp w = 0x13) (row : tableRow decodeMultiply w = some i) :
    RecoversWord w i := by
  unfold tableRow decodeMultiply at row
  split at row
  case h_6 => cases row
  all_goals
    cases row
    exact recovers_encOpr opcode (BitVec.eq_of_toNat_eq (by assumption)) rfl rfl

theorem recovers_decodeSignExtend (opcode : fieldOp w = 0x1C) (row : tableRow decodeSignExtend w = some i) :
    RecoversWord w i := by
  unfold tableRow decodeSignExtend at row
  split at row
  case h_3 => cases row
  all_goals
    cases row
    exact recovers_encOpr_without_ra opcode (BitVec.eq_of_toNat_eq (by assumption)) rfl rfl

theorem agreeOn_ra {op : BitVec 6} {rb : Reg} {d : BitVec 16} : AgreeOn [(21, 5)] (encMfc op (fieldRa w) rb d) w := by
  simp only [AgreeOn, List.forall_mem_cons]
  exact ⟨fieldRa_encMem .., by simp⟩

theorem agreeOn_rb {op : BitVec 6} {ra : Reg} {d : BitVec 16} : AgreeOn [(16, 5)] (encMfc op ra (fieldRb w) d) w := by
  simp only [AgreeOn, List.forall_mem_cons]
  exact ⟨fieldRb_encMem .., by simp⟩

theorem agreeOn_nil (a b : BitVec 32) : AgreeOn [] a b := by simp [AgreeOn]

theorem recovers_decodeMisc (opcode : fieldOp w = 0x18)
    (row : decodeMisc (fieldDisp16 w).toNat (fieldRa w) (fieldRb w) = some i) : RecoversWord w i := by
  unfold decodeMisc at row
  split at row <;> cases row
  case h_5 f | h_6 f | h_9 f | h_11 f =>
    exact recovers_encMfc [(16, 5)] 0x03E00000 opcode (congrArg (encMfc 0x18 31 _) (BitVec.eq_of_toNat_eq f).symm)
      agreeOn_rb rfl (by decide)
  case h_7 f | h_8 f | h_10 f =>
    exact recovers_encMfc [(21, 5)] 0x001F0000 opcode (congrArg (encMfc 0x18 _ 31) (BitVec.eq_of_toNat_eq f).symm)
      agreeOn_ra rfl (by decide)
  case h_1 f | h_2 f | h_3 f | h_4 f =>
    exact recovers_encMfc [] 0x03FF0000 opcode (congrArg (encMfc 0x18 31 31) (BitVec.eq_of_toNat_eq f).symm)
      (agreeOn_nil _ _) rfl (by decide)

theorem recovers_decodeJump (opcode : fieldOp w = 0x1A) :
    RecoversWord w (decodeJump (w.extractLsb' 14 2) (fieldRa w) (fieldRb w)) := by
  unfold decodeJump
  split
  all_goals exact recovers_encJmp opcode (by assumption) rfl rfl

theorem recovers_callPal (opcode : fieldOp w = 0x00) :
    RecoversWord w (.callPal (w.extractLsb' 8 18) (w.getLsbD 7) (w.extractLsb' 0 7)) := by
  obtain ⟨op, zeros, unprivileged, function⟩ := callPal_fields (w.extractLsb' 8 18) (w.getLsbD 7) (w.extractLsb' 0 7)
  have same : AgreeOn [(26, 6), (8, 18), (7, 1), (0, 7)]
      (encode (.callPal (w.extractLsb' 8 18) (w.getLsbD 7) (w.extractLsb' 0 7))) w := by
    simp only [AgreeOn, List.forall_mem_cons]
    exact ⟨op.trans opcode.symm, zeros, extract_one_of_getLsbD_eq unprivileged, function, by simp⟩
  exact and_not_eq_of_agreeOn (mask := 0) same (by decide)

theorem recovers_hwRei (opcode : fieldOp w = 0x1E) : RecoversWord w (.hwRei (w.getLsbD 15) (w.extractLsb' 0 15)) := by
  obtain ⟨op, shadow, zeros⟩ := hwRei_fields (w.getLsbD 15) (w.extractLsb' 0 15)
  have same : AgreeOn [(26, 6), (15, 1), (0, 15)] (encode (.hwRei (w.getLsbD 15) (w.extractLsb' 0 15))) w := by
    simp only [AgreeOn, List.forall_mem_cons]
    exact ⟨op.trans opcode.symm, extract_one_of_getLsbD_eq shadow, zeros, by simp⟩
  exact and_not_eq_of_agreeOn (mask := 0x03FF0000) same (by decide)

/-- The reserved opcodes ignore all but the opcode (R390). -/
theorem recovers_reservedOpcode (opcode : fieldOp w = fieldOp (encode i)) (ignored : ignoredBits i = 0x03FFFFFF) :
    RecoversWord w i := by
  have same : AgreeOn [(26, 6)] (encode i) w := by
    simp only [AgreeOn, List.forall_mem_cons]
    exact ⟨opcode.symm, by simp⟩
  rw [RecoversWord, ignored]
  exact and_not_eq_of_agreeOn same (by decide)

theorem listed_eq_ok {fn : BitVec 16} {row : Option Instr} (h : listed w fn row = .ok i) : row = some i := by
  cases row <;> cases h
  rfl

end Reencoding

/-! ### The statements -/

/-- Settles O1, format by format: every field of an encoded word is read back. -/
theorem decodeEncodeRoundTrip : Obligations.DecodeEncodeRoundTrip := by
  intro i
  cases i with
  | callPal mbz cls n => exact decode_encode_callPal mbz cls n
  | hwRei rs mbz => exact decode_encode_hwRei rs mbz
  | opc01 | opc02 | opc03 | opc04 | opc05 | opc06 | opc07 => rfl
  | lda ra rb d | ldah ra rb d | ldbu ra rb d | ldqU ra rb d | ldwu ra rb d | stw ra rb d | stb ra rb d | stqU ra rb d
  | ldf ra rb d | ldg ra rb d | lds ra rb d | ldt ra rb d | stf ra rb d | stg ra rb d | sts ra rb d | stt ra rb d
  | ldl ra rb d | ldq ra rb d | ldlL ra rb d | ldqL ra rb d | stl ra rb d | stq ra rb d | stlC ra rb d | stqC ra rb d =>
    exact decode_encMem (fun _ => rfl) ra rb d
  | hwMfpr ra index => exact decode_encMem (mk := fun ra _ d => .hwMfpr ra d) (fun _ => rfl) ra 31 index
  | hwMtpr rb index => exact decode_encMem (mk := fun _ rb d => .hwMtpr rb d) (fun _ => rfl) 31 rb index
  | br ra d | fbeq ra d | fblt ra d | fble ra d | bsr ra d | fbne ra d | fbge ra d | fbgt ra d
  | blbc ra d | beq ra d | blt ra d | ble ra d | blbs ra d | bne ra d | bge ra d | bgt ra d =>
    exact decode_encBra (fun _ => rfl) ra d
  | addl ra b rc | s4addl ra b rc | subl ra b rc | s4subl ra b rc | cmpbge ra b rc | s8addl ra b rc | s8subl ra b rc
  | cmpult ra b rc | addq ra b rc | s4addq ra b rc | subq ra b rc | s4subq ra b rc | cmpeq ra b rc | s8addq ra b rc
  | s8subq ra b rc | cmpule ra b rc | addlV ra b rc | sublV ra b rc | cmplt ra b rc | addqV ra b rc | subqV ra b rc
  | cmple ra b rc => exact decode_encOpr decodeArith (fun _ => rfl) rfl
  | and ra b rc | bic ra b rc | cmovlbs ra b rc | cmovlbc ra b rc | bis ra b rc | cmoveq ra b rc | cmovne ra b rc
  | ornot ra b rc | xor ra b rc | cmovlt ra b rc | cmovge ra b rc | eqv ra b rc | cmovle ra b rc | cmovgt ra b rc =>
    exact decode_encOpr decodeLogical (fun _ => rfl) rfl
  | amask b rc => exact decode_encOpr decodeLogical (fun _ => rfl) rfl
  | implver rc => exact decode_encOpr decodeLogical (fun _ => rfl) rfl
  | mskbl ra b rc | extbl ra b rc | insbl ra b rc | mskwl ra b rc | extwl ra b rc | inswl ra b rc | mskll ra b rc
  | extll ra b rc | insll ra b rc | zap ra b rc | zapnot ra b rc | mskql ra b rc | srl ra b rc | extql ra b rc | sll ra b rc
  | insql ra b rc | sra ra b rc | mskwh ra b rc | inswh ra b rc | extwh ra b rc | msklh ra b rc | inslh ra b rc
  | extlh ra b rc | mskqh ra b rc | insqh ra b rc | extqh ra b rc =>
    exact decode_encOpr decodeShift (fun _ => rfl) rfl
  | mull ra b rc | mulq ra b rc | umulh ra b rc | mullV ra b rc | mulqV ra b rc =>
    exact decode_encOpr decodeMultiply (fun _ => rfl) rfl
  | sextb b rc | sextw b rc => exact decode_encOpr decodeSignExtend (fun _ => rfl) rfl
  | itfp fa fb fc fn | fltv fa fb fc fn | flti fa fb fc fn | fltl fa fb fc fn =>
    exact decode_encFpo (fun _ => rfl) fa fb fc fn
  | trapb | excb | mb | wmb | fetch | fetchM | ecb | wh64 | rpcc | rc | rs => exact decode_encMfc rfl
  | jmp ra rb | jsr ra rb | ret ra rb | jsrCoroutine ra rb => exact decode_encJmp _ ra rb
  | hwLd ra rb q d | hwSt ra rb q d => exact decode_encHwm (fun _ => rfl) ra rb q d

/-- Settles O2, opcode by opcode: the fields read are written back, and they cover every bit that is not ignored. -/
theorem encodeRecoversWord : Obligations.EncodeRecoversWord := by
  intro w i decoded
  show RecoversWord w i
  unfold decode decodeMajor at decoded
  split at decoded
  -- the groups with a function table
  case h_17 op => exact recovers_decodeArith (BitVec.eq_of_toNat_eq op) (listed_eq_ok decoded)
  case h_18 op => exact recovers_decodeLogical (BitVec.eq_of_toNat_eq op) (listed_eq_ok decoded)
  case h_19 op => exact recovers_decodeShift (BitVec.eq_of_toNat_eq op) (listed_eq_ok decoded)
  case h_20 op => exact recovers_decodeMultiply (BitVec.eq_of_toNat_eq op) (listed_eq_ok decoded)
  case h_25 op => exact recovers_decodeMisc (BitVec.eq_of_toNat_eq op) (listed_eq_ok decoded)
  case h_29 op => exact recovers_decodeSignExtend (BitVec.eq_of_toNat_eq op) (listed_eq_ok decoded)
  case h_65 => cases decoded
  -- the opcodes of one instruction, and the jumps
  all_goals cases decoded
  case h_1 => exact recovers_callPal (BitVec.eq_of_toNat_eq (by assumption))
  case h_2 | h_3 | h_4 | h_5 | h_6 | h_7 | h_8 =>
    exact recovers_reservedOpcode (BitVec.eq_of_toNat_eq (by assumption)) rfl
  case h_21 | h_22 | h_23 | h_24 => exact recovers_encFpo (BitVec.eq_of_toNat_eq (by assumption)) rfl rfl
  case h_26 => exact recovers_encMfc [(21, 5)] 0x001F0000 (BitVec.eq_of_toNat_eq (by assumption)) rfl agreeOn_ra rfl (by decide)
  case h_27 => exact recovers_decodeJump (BitVec.eq_of_toNat_eq (by assumption))
  case h_28 | h_32 => exact recovers_encHwm (BitVec.eq_of_toNat_eq (by assumption)) rfl rfl
  case h_30 => exact recovers_encMfc [(16, 5)] 0x03E00000 (BitVec.eq_of_toNat_eq (by assumption)) rfl agreeOn_rb rfl (by decide)
  case h_31 => exact recovers_hwRei (BitVec.eq_of_toNat_eq (by assumption))
  case h_49 | h_50 | h_51 | h_52 | h_53 | h_54 | h_55 | h_56 | h_57 | h_58 | h_59 | h_60
     | h_61 | h_62 | h_63 | h_64 => exact recovers_encBra (BitVec.eq_of_toNat_eq (by assumption)) rfl rfl
  all_goals exact recovers_encMem (BitVec.eq_of_toNat_eq (by assumption)) rfl rfl

end Sys2Proof.Machine

/-! ## What an instruction may do, said once for every property of states

Every instruction is `finish` of a result (`EndsIn`) whose state is reached by the operations of `Closed`, which all
instructions may use, and those of its own `specials`. A property of states that these keep is a property of that result. -/

namespace Sys2Proof.Machine

section InstructionRule

variable {π α β : Type}

/-- Every state a result carries has the property `P`, and its stop the property `Q`. -/
def Result.Ends (P : State π → Prop) (Q : Fault → Prop) : Result π α → Prop
  | .ok _ s => P s
  | .raised _ _ _ s => P s
  | .stopped f => Q f

/-- An outcome is the end of an instruction whose result has the properties (R130 phases 5, 6). -/
def EndsIn (M : Setup π) (P : State π → Prop) (Q : Fault → Prop) (o : Host.Outcome (State π) Fault Refusal) : Prop :=
  ∃ r : Result π Unit, o = finish M r ∧ r.Ends P Q

/-- A property kept by translations and by accesses that leave memory alone. -/
structure Accessing (M : Setup π) (P : State π → Prop) (Q : Fault → Prop) : Prop where
  access : ∀ {s : State π} (log : List IoAccess) (answers : List IoAnswer) (draws : Nat), P s →
    P { s with ioLog := log, ioAnswers := answers, draws := draws }
  translate : ∀ {s : State π} (va : Word) (acc : Access) (m : Mode), P s → (translate M va acc m s).Ends P Q
  missed : Q .stopNxm

/-- A property kept by what every instruction may do: make such accesses, and write registers, `PC` and the pending traps. -/
structure Closed (M : Setup π) (P : State π → Prop) (Q : Fault → Prop) : Prop extends Accessing M P Q where
  writeInt : ∀ {s : State π} (r : Reg) (v : Word), P s → P (s.writeInt r v)
  writeFp : ∀ {s : State π} (r : Reg) (v : Word), P s → P (s.writeFp r v)
  setPc : ∀ {s : State π} (v : Word), P s → P (s.setPc v)
  trap : ∀ {s : State π} (bits : BitVec 7) (reg : BitVec 6), P s → P (s.trap bits reg)

/-- What only some instructions do. -/
inductive Special where
  | memory
  | lockFlag
  | intrFlag
  | fpcr
  /-- A push on the history queue. -/
  | history
  /-- The body of `HW_REI`. -/
  | returning
  /-- The write of an internal register. -/
  | register (index : BitVec 16)
  /-- The personality's part of `CALL_PAL`. -/
  | call

/-- A property kept by what only some instructions do. -/
def KeptBy (M : Setup π) (P : State π → Prop) (Q : Fault → Prop) : Special → Prop
  | .memory => ∀ (s : State π) (pa : Nat) (bytes : List Byte), P s → P { s with mem := Memory.writeBytes s.mem pa bytes }
  | .lockFlag => ∀ (s : State π) (flag : Bool), P s → P { s with lockFlag := flag }
  | .intrFlag => ∀ (s : State π) (flag : Bool), P s → P { s with intrFlag := flag }
  | .fpcr => ∀ (s : State π) (v : Word), P s → P { s with fpcr := v }
  | .history => ∀ (s : State π) (v : Word), P s → P (s.pushPc v)
  | .returning => ∀ (s : State π) (rs : Bool), P s → P (s.returnFromFirmware rs)
  | .register index => ∀ (s : State π) (v : Word), P s → (iprWrite M index v s).Ends P Q
  | .call => ∀ (s : State π) (code : BitVec 8), P s →
    EndsIn M P Q (endPrivilegedOpcode M s ((M.personality.executePrivilegedOpcode code s).run M s))

/-- What each instruction does beside what all may do. -/
def specials : Instr → List Special
  | .stb .. | .stw .. | .stl .. | .stq .. | .stqU .. | .stf .. | .stg .. | .sts .. | .stt .. => [.memory]
  | .stlC .. | .stqC .. => [.memory, .lockFlag]
  | .ldlL .. | .ldqL .. => [.lockFlag]
  | .hwLd _ _ q _ => if q.lock then [.lockFlag] else []
  | .hwSt _ _ q _ => if q.lock then [.memory, .lockFlag] else [.memory]
  | .rs .. | .rc .. => [.intrFlag]
  | .itfp .. | .fltv .. | .flti .. | .fltl .. => [.fpcr]
  | .br .. | .bsr .. | .blbc .. | .beq .. | .blt .. | .ble .. | .blbs .. | .bne .. | .bge .. | .bgt .. | .fbeq .. | .fblt ..
  | .fble .. | .fbne .. | .fbge .. | .fbgt .. | .jmp .. | .jsr .. | .ret .. | .jsrCoroutine .. => [.history]
  | .hwRei .. => [.returning]
  | .hwMtpr _ index => [.register index]
  | .callPal .. => [.call]
  | _ => []

variable {M : Setup π} {P : State π → Prop} {Q : Fault → Prop} {s : State π}

/-! ### The shared operations -/

theorem Result.Ends.andThen {r : Result π α} {f : α → State π → Result π β} (start : r.Ends P Q)
    (next : ∀ a t, P t → (f a t).Ends P Q) : (r.andThen f).Ends P Q := by
  cases r with
  | ok a t => exact next a t start
  | raised k va m t => exact start
  | stopped f => exact start

theorem endsIn_finish {r : Result π Unit} (ends : r.Ends P Q) : EndsIn M P Q (finish M r) := ⟨r, rfl, ends⟩

theorem endsIn_complete (holds : P s) : EndsIn M P Q (complete M s) := ⟨.ok () s, rfl, holds⟩

theorem raise_ends (holds : P s) (k : FaultKind) (va : Word) : (raise k va s : Result π α).Ends P Q := holds

/-- A test that passes or raises leaves the state alone: R78, R354, R380, R382. -/
theorem test_ends (holds : P s) (c : Prop) [Decidable c] (k : FaultKind) (va : Word) :
    (if c then .ok () s else raise k va s : Result π Unit).Ends P Q := by
  split
  · exact holds
  · exact holds

section Accesses

variable (accessing : Accessing M P Q)
include accessing

theorem memRead_ends (holds : P s) (pa : PhysAddr) (w : Width) : (memRead M pa w s).Ends P Q := by
  rcases memRead_cases M pa w s with ⟨v, log, answers, draws, answered⟩ | stopped
  · rw [answered]; exact accessing.access log answers draws holds
  · rw [stopped]; exact accessing.missed

theorem memWrite_ends (memory : KeptBy M P Q .memory) (holds : P s) (pa : PhysAddr) (w : Width) (v : Word) :
    (memWrite M pa w v s).Ends P Q := by
  rcases memWrite_cases M pa w v s with stored | ⟨log, answers, draws, answered⟩ | stopped
  · rw [stored]; exact memory s _ _ holds
  · rw [answered]; exact accessing.access log answers draws holds
  · rw [stopped]; exact accessing.missed

theorem vread_ends (holds : P s) (va : Word) (w : Width) (m : Mode) : (vread M va w m s).Ends P Q :=
  (accessing.translate va .read m holds).andThen fun pa _ placed => memRead_ends accessing placed pa w

theorem vwrite_ends (memory : KeptBy M P Q .memory) (holds : P s) (va : Word) (w : Width) (v : Word) (m : Mode) :
    (vwrite M va w v m s).Ends P Q :=
  (accessing.translate va .write m holds).andThen fun pa _ placed => memWrite_ends accessing memory placed pa w v

theorem alignedRead_ends (holds : P s) (va : Word) (w : Width) : (alignedRead M va w s).Ends P Q :=
  (test_ends holds _ _ _).andThen fun _ t aligned => vread_ends accessing aligned va w t.cm

theorem alignedWrite_ends (memory : KeptBy M P Q .memory) (holds : P s) (va : Word) (w : Width) (v : Word) :
    (alignedWrite M va w v s).Ends P Q :=
  (test_ends holds _ _ _).andThen fun _ t aligned => vwrite_ends accessing memory aligned va w v t.cm

theorem hwPhys_ends (holds : P s) (q : HwQualifiers) (ea : Word) (acc : Access) : (hwPhys M q ea acc s).Ends P Q := by
  refine (test_ends holds _ _ _).andThen fun _ t aligned => ?_
  split
  · exact aligned
  · exact accessing.translate ea acc _ aligned

end Accesses

section Shapes

variable (closed : Closed M P Q)
include closed

theorem Closed.advance (holds : P s) : P s.advance := closed.setPc _ holds

theorem Closed.concludeStore (lock : KeptBy M P Q .lockFlag) (holds : P s) (ra : Reg) (success : Bool) :
    P (s.concludeStore ra success) := closed.advance (lock _ false (closed.writeInt ra _ holds))

/-! ### One lemma per shape of instruction -/

theorem writeInt_advance_endsIn (holds : P s) (r : Reg) (v : Word) : EndsIn M P Q (complete M (s.writeInt r v).advance) :=
  endsIn_complete (closed.advance (closed.writeInt r v holds))

/-- An overflow trap is recorded after the write (R202). -/
theorem writeInt_trapIovIf_endsIn (holds : P s) (r rc : Reg) (v : Word) (overflow : Bool) :
    EndsIn M P Q (complete M ((s.writeInt r v).trapIovIf overflow rc).advance) := by
  cases overflow with
  | true => exact endsIn_complete (closed.advance (closed.trap _ _ (closed.writeInt r v holds)))
  | false => exact writeInt_advance_endsIn closed holds r v

theorem conditionalMove_endsIn (holds : P s) (t : IntTest) (ra : Reg) (b : Operand) (rc : Reg) :
    EndsIn M P Q (conditionalMove M t ra b rc s) := by
  refine endsIn_complete (closed.advance ?_)
  split
  · exact closed.writeInt rc _ holds
  · exact holds

theorem transfer_holds (history : KeptBy M P Q .history) (holds : P s) (target : Word) : P (s.transfer target) :=
  closed.setPc _ (history s s.pc holds)

theorem branchIf_endsIn (history : KeptBy M P Q .history) (holds : P s) (t : IntTest) (ra : Reg) (disp : BitVec 21) :
    EndsIn M P Q (branchIf M t ra disp s) := by
  refine endsIn_complete ?_
  split
  · exact transfer_holds closed history holds _
  · exact closed.advance holds

theorem fpBranchIf_endsIn (history : KeptBy M P Q .history) (holds : P s) (t : FpTest) (fa : Reg) (disp : BitVec 21) :
    EndsIn M P Q (fpBranchIf M t fa disp s) := by
  refine endsIn_finish ((test_ends holds _ _ _).andThen fun _ u enabled => ?_)
  split
  · exact transfer_holds closed history enabled _
  · exact closed.advance enabled

/-- Both forms of a transfer with link (R303, R319). -/
theorem link_endsIn (history : KeptBy M P Q .history) (holds : P s) (ra : Reg) (target : Word) :
    EndsIn M P Q (complete M (((s.pushPc s.pc).writeInt ra s.npc).setPc target)) :=
  endsIn_complete (closed.setPc _ (closed.writeInt ra _ (history s s.pc holds)))

theorem loadInt_endsIn (holds : P s) (w : Width) (extend : Word → Word) (ra : Reg) (ea : Word) :
    EndsIn M P Q (finish M (loadInt M w extend ra ea s)) :=
  endsIn_finish ((alignedRead_ends closed.toAccessing holds ea w).andThen fun _ _ done =>
    closed.advance (closed.writeInt ra _ done))

theorem loadLocked_endsIn (lock : KeptBy M P Q .lockFlag) (holds : P s) (w : Width) (extend : Word → Word) (ra : Reg)
    (ea : Word) : EndsIn M P Q (finish M (loadLocked M w extend ra ea s)) :=
  endsIn_finish ((alignedRead_ends closed.toAccessing holds ea w).andThen fun _ _ done =>
    closed.advance (lock _ true (closed.writeInt ra _ done)))

theorem storeInt_endsIn (memory : KeptBy M P Q .memory) (holds : P s) (w : Width) (ra : Reg) (ea : Word) :
    EndsIn M P Q (finish M (storeInt M w ra ea s)) :=
  endsIn_finish ((alignedWrite_ends closed.toAccessing memory holds ea w _).andThen fun _ _ done => closed.advance done)

theorem storeConditional_endsIn (memory : KeptBy M P Q .memory) (lock : KeptBy M P Q .lockFlag) (holds : P s) (w : Width)
    (ra : Reg) (ea : Word) : EndsIn M P Q (finish M (storeConditional M w ra ea s)) := by
  refine endsIn_finish ?_
  unfold storeConditional
  split
  · exact (alignedWrite_ends closed.toAccessing memory holds ea w _).andThen fun _ _ done => closed.concludeStore lock done ra true
  · exact closed.concludeStore lock holds ra false

theorem loadFp_endsIn (holds : P s) (w : Width) (expand : Word → Word) (fa rb : Reg) (disp : BitVec 16) :
    EndsIn M P Q (finish M (loadFp M w expand fa rb disp s)) :=
  endsIn_finish ((test_ends holds _ _ _).andThen fun _ _ enabled =>
    (alignedRead_ends closed.toAccessing enabled _ w).andThen fun _ _ done => closed.advance (closed.writeFp fa _ done))

theorem storeFp_endsIn (memory : KeptBy M P Q .memory) (holds : P s) (w : Width) (pack : Word → Word) (fa rb : Reg)
    (disp : BitVec 16) : EndsIn M P Q (finish M (storeFp M w pack fa rb disp s)) :=
  endsIn_finish ((test_ends holds _ _ _).andThen fun _ _ enabled =>
    (alignedWrite_ends closed.toAccessing memory enabled _ w _).andThen fun _ _ done => closed.advance done)

theorem fpOperate_endsIn (control : KeptBy M P Q .fpcr) (holds : P s) (op : BitVec 6) (fa fb fc : Reg) (fn : BitVec 11) :
    EndsIn M P Q (fpOperate M op fa fb fc fn s) := by
  refine endsIn_finish ((test_ends holds _ _ _).andThen fun _ t enabled => ?_)
  cases M.fp op fn (t.readFp fa) (t.readFp fb) t.fpcr with
  | reserved | badOperand => exact raise_ends enabled _ _
  | done write fpcr traps =>
    have executed : P (t.fpExecuted fc write fpcr) := by
      cases write with
      | none => exact closed.advance (control t fpcr enabled)
      | some v => exact closed.advance (closed.writeFp fc v (control t fpcr enabled))
    rw [applyFp_done]
    split
    · exact executed
    · exact closed.trap _ _ executed

/-! ### The firmware opcodes (R380 to R391) -/

omit closed in
theorem callPal_endsIn (call : KeptBy M P Q .call) (holds : P s) (mbz : BitVec 18) (cls : Bool) (n : BitVec 7) :
    EndsIn M P Q (callPal M mbz cls n s) := by
  unfold callPal
  split_ifs
  · exact endsIn_finish (raise_ends holds _ _)
  · exact endsIn_finish (raise_ends holds _ _)
  · exact call s _ holds

theorem hwMfpr_endsIn (holds : P s) (ra : Reg) (index : BitVec 16) : EndsIn M P Q (execHwMfpr ra index s M) := by
  refine endsIn_finish ((test_ends holds _ _ _).andThen fun _ t legal => ?_)
  split
  · exact closed.advance (closed.writeInt ra _ legal)
  · exact legal

theorem hwMtpr_endsIn {index : BitVec 16} (register : KeptBy M P Q (.register index)) (holds : P s) (rb : Reg) :
    EndsIn M P Q (execHwMtpr rb index s M) :=
  endsIn_finish ((test_ends holds _ _ _).andThen fun _ t legal =>
    (register t _ legal).andThen fun _ _ written => closed.advance written)

omit closed in
theorem hwRei_endsIn (returning : KeptBy M P Q .returning) (holds : P s) (rs : Bool) (mbz : BitVec 15) :
    EndsIn M P Q (execHwRei rs mbz s M) := by
  refine endsIn_finish ((test_ends holds _ _ _).andThen fun _ t legal => ?_)
  split
  · exact legal
  · exact returning t rs legal

theorem hwLd_endsIn {q : HwQualifiers} (lock : q.lock = true → KeptBy M P Q .lockFlag) (holds : P s) (ra rb : Reg)
    (disp : BitVec 10) : EndsIn M P Q (execHwLd ra rb q disp s M) := by
  refine endsIn_finish ((test_ends holds _ _ _).andThen fun _ t legal => (test_ends legal _ _ _).andThen fun _ u passed =>
    (hwPhys_ends closed.toAccessing passed q _ .read).andThen fun pa _ placed =>
      (memRead_ends closed.toAccessing placed pa _).andThen fun v x done => closed.advance ?_)
  have written := closed.writeInt ra (if q.quad then v else sext 32 v) done
  cases locking : q.lock with
  | true => exact lock locking _ _ written
  | false => simpa only [locking, Bool.or_false] using written

theorem hwSt_endsIn {q : HwQualifiers} (memory : KeptBy M P Q .memory) (lock : q.lock = true → KeptBy M P Q .lockFlag)
    (holds : P s) (ra rb : Reg) (disp : BitVec 10) : EndsIn M P Q (execHwSt ra rb q disp s M) := by
  refine endsIn_finish ((test_ends holds _ _ _).andThen fun _ t legal => (test_ends legal _ _ _).andThen
    fun _ u passed => ?_)
  unfold hwStore
  split
  next failing =>
    obtain ⟨locking, -⟩ := Bool.and_eq_true_iff.mp failing
    exact closed.concludeStore (lock locking) passed ra false
  next =>
    refine (hwPhys_ends closed.toAccessing passed q _ .write).andThen fun pa _ placed =>
      (memWrite_ends closed.toAccessing memory placed pa _ _).andThen fun _ x done => ?_
    split
    next locking => exact closed.concludeStore (lock locking) done ra true
    next => exact closed.advance done

end Shapes

/-- The rule of an instruction: what holds before it, and is kept by what all instructions may do and by its own specials, holds
of the result it ends in. -/
theorem execUnder_endsIn (closed : Closed M P Q) {i : Instr} (kept : ∀ c ∈ specials i, KeptBy M P Q c) (holds : P s) :
    EndsIn M P Q (execUnder M i s) := by
  cases i with
  | callPal mbz cls n => exact callPal_endsIn (kept _ (.head _)) holds mbz cls n
  | opc01 | opc02 | opc03 | opc04 | opc05 | opc06 | opc07 => exact endsIn_finish (raise_ends holds _ _)
  | lda ra | ldah ra => exact writeInt_advance_endsIn closed holds ra _
  | ldbu ra | ldwu ra | ldl ra | ldq ra | ldqU ra => exact loadInt_endsIn closed holds _ _ ra _
  | ldlL ra | ldqL ra => exact loadLocked_endsIn closed (kept _ (.head _)) holds _ _ ra _
  | stb ra | stw ra | stl ra | stq ra | stqU ra => exact storeInt_endsIn closed (kept _ (.head _)) holds _ ra _
  | stlC ra | stqC ra =>
    exact storeConditional_endsIn closed (kept _ (.head _)) (kept _ (.tail _ (.head _))) holds _ ra _
  | addl _ _ rc | s4addl _ _ rc | s8addl _ _ rc | subl _ _ rc | s4subl _ _ rc | s8subl _ _ rc
  | addq _ _ rc | s4addq _ _ rc | s8addq _ _ rc | subq _ _ rc | s4subq _ _ rc | s8subq _ _ rc
  | cmpeq _ _ rc | cmplt _ _ rc | cmple _ _ rc | cmpult _ _ rc | cmpule _ _ rc | cmpbge _ _ rc
  | mull _ _ rc | mulq _ _ rc | umulh _ _ rc
  | and _ _ rc | bic _ _ rc | bis _ _ rc | ornot _ _ rc | xor _ _ rc | eqv _ _ rc | amask _ rc | implver rc
  | sll _ _ rc | srl _ _ rc | sra _ _ rc | zap _ _ rc | zapnot _ _ rc | sextb _ rc | sextw _ rc
  | extbl _ _ rc | extwl _ _ rc | extll _ _ rc | extql _ _ rc | extwh _ _ rc | extlh _ _ rc | extqh _ _ rc
  | insbl _ _ rc | inswl _ _ rc | insll _ _ rc | insql _ _ rc | inswh _ _ rc | inslh _ _ rc | insqh _ _ rc
  | mskbl _ _ rc | mskwl _ _ rc | mskll _ _ rc | mskql _ _ rc | mskwh _ _ rc | msklh _ _ rc | mskqh _ _ rc =>
    exact writeInt_advance_endsIn closed holds rc _
  | addlV _ _ rc | sublV _ _ rc | addqV _ _ rc | subqV _ _ rc | mullV _ _ rc | mulqV _ _ rc =>
    exact writeInt_trapIovIf_endsIn closed holds rc rc _ _
  | cmovlbs ra b rc | cmovlbc ra b rc | cmoveq ra b rc | cmovne ra b rc | cmovlt ra b rc | cmovge ra b rc
  | cmovle ra b rc | cmovgt ra b rc => exact conditionalMove_endsIn closed holds _ ra b rc
  | itfp fa fb fc fn | fltv fa fb fc fn | flti fa fb fc fn | fltl fa fb fc fn =>
    exact fpOperate_endsIn closed (kept _ (.head _)) holds _ fa fb fc fn
  | trapb | excb | mb | wmb | fetch | fetchM | ecb | wh64 => exact endsIn_complete (closed.advance holds)
  | rpcc ra => exact writeInt_advance_endsIn closed (closed.access s.ioLog s.ioAnswers (s.draws + 1) holds) ra _
  | rs ra | rc ra => exact endsIn_complete (closed.advance (kept .intrFlag (.head _) _ _ (closed.writeInt ra _ holds)))
  | jmp ra | jsr ra | ret ra | jsrCoroutine ra | br ra | bsr ra => exact link_endsIn closed (kept _ (.head _)) holds ra _
  | blbc ra disp | beq ra disp | blt ra disp | ble ra disp | blbs ra disp | bne ra disp | bge ra disp | bgt ra disp =>
    exact branchIf_endsIn closed (kept _ (.head _)) holds _ ra disp
  | fbeq fa disp | fblt fa disp | fble fa disp | fbne fa disp | fbge fa disp | fbgt fa disp =>
    exact fpBranchIf_endsIn closed (kept _ (.head _)) holds _ fa disp
  | ldf fa rb disp | ldg fa rb disp | lds fa rb disp | ldt fa rb disp => exact loadFp_endsIn closed holds _ _ fa rb disp
  | stf fa rb disp | stg fa rb disp | sts fa rb disp | stt fa rb disp =>
    exact storeFp_endsIn closed (kept _ (.head _)) holds _ _ fa rb disp
  | hwMfpr ra index => exact hwMfpr_endsIn closed holds ra index
  | hwMtpr rb index => exact hwMtpr_endsIn closed (kept _ (.head _)) holds rb
  | hwRei rs mbz => exact hwRei_endsIn (kept _ (.head _)) holds rs mbz
  | hwLd ra rb q disp => exact hwLd_endsIn closed (fun locking => kept _ (by simp [specials, locking])) holds ra rb disp
  | hwSt ra rb q disp =>
    refine hwSt_endsIn closed (kept _ ?_) (fun locking => kept _ (by simp [specials, locking])) holds ra rb disp
    simp only [specials]
    split <;> simp

end InstructionRule
end Sys2Proof.Machine

/-! ## Proofs of the statements about misses, lookups and alignment (20_memory R72, R104 to R109) -/

namespace Sys2Proof.Machine

section Walks

variable {π : Type} {M : Setup π}

/-! ### The translator, every way it can end (R100, R107) -/

/-- The walk that a miss makes under the policy WALK (R107). -/
abbrev State.walkMiss (s : State π) (M : Setup π) (va : Word) (acc : Access) :
    Result π (WalkAnswer M.personality.missPolicy) :=
  (M.personality.walkPageTable (vpnOf M va) acc.side acc s).run M s

/-- Every way a translation can end, in the order of R100. -/
inductive Translated (M : Setup π) (va : Word) (acc : Access) (m : Mode) (s : State π) : Result π PhysAddr → Prop
  /-- An improper address, or a superpage outside kernel mode. -/
  | refused {k : FaultKind} (kind : k = .badVirtualAddress acc ∨ k = .accessViolation acc) :
    Translated M va acc m s (.raised k va m s)
  | superpage : Translated M va acc m s (.ok (superpagePa M va) s)
  | hit {e : TlbEntry} {s₀ : State π} (found : s.lookup acc.side (vpnOf M va) = (some e, s₀)) :
    Translated M va acc m s (useEntry M va acc m e s₀)
  | miss {s₀ : State π} (found : s.lookup acc.side (vpnOf M va) = (none, s₀))
    (policy : M.personality.missPolicy acc.side = .fault) : Translated M va acc m s (.raised (.tlbMiss acc) va m s₀)
  | walkStopped {s₀ : State π} {f : Fault} (found : s.lookup acc.side (vpnOf M va) = (none, s₀))
    (policy : M.personality.missPolicy acc.side = .walk) (walked : s₀.walkMiss M va acc = .stopped f) :
    Translated M va acc m s (.stopped f)
  | walkFault {s₀ s₁ : State π} {k : FaultKind} {raisable : k.raisable M.personality.missPolicy = true}
    (found : s.lookup acc.side (vpnOf M va) = (none, s₀)) (policy : M.personality.missPolicy acc.side = .walk)
    (walked : s₀.walkMiss M va acc = .ok (.fault k raisable) s₁) : Translated M va acc m s (.raised k va m s₁)
  | loadStopped {s₀ s₁ : State π} {p : Word} {f : Fault} (found : s.lookup acc.side (vpnOf M va) = (none, s₀))
    (policy : M.personality.missPolicy acc.side = .walk) (walked : s₀.walkMiss M va acc = .ok (.pte p) s₁)
    (loaded : tlbLoad M acc.side (vpnOf M va) p s₁ = .stopped f) : Translated M va acc m s (.stopped f)
  | loaded {s₀ s₁ s₂ : State π} {p : Word} {e : TlbEntry} (found : s.lookup acc.side (vpnOf M va) = (none, s₀))
    (policy : M.personality.missPolicy acc.side = .walk) (walked : s₀.walkMiss M va acc = .ok (.pte p) s₁)
    (loaded : tlbLoad M acc.side (vpnOf M va) p s₁ = .ok e s₂) : Translated M va acc m s (useEntry M va acc m e s₂)

/-- What a miss does with the answer of its walk: it raises a fault kind, and loads a PTE (R107). -/
def resolveWalk (M : Setup π) (va : Word) (acc : Access) (m : Mode) :
    WalkAnswer M.personality.missPolicy → State π → Result π TlbEntry
  | .fault k _, s => .raised k va m s
  | .pte p, s => tlbLoad M acc.side (vpnOf M va) p s

theorem missEntry_of_walk {va : Word} {acc : Access} (m : Mode) {s : State π}
    (policy : M.personality.missPolicy acc.side = .walk) :
    missEntry M va acc m s = (s.walkMiss M va acc).andThen (resolveWalk M va acc m) := by
  simp only [missEntry, policy]
  refine congrArg (Result.andThen _) (funext fun answer => funext fun t => ?_)
  cases answer with
  | pte p => rfl
  | fault k raisable => rfl

/-- Past a miss under WALK a translation goes on with what the walk answers. -/
theorem translateTable_of_walk {va : Word} {acc : Access} (m : Mode) {s s₀ : State π}
    (policy : M.personality.missPolicy acc.side = .walk) (found : s.lookup acc.side (vpnOf M va) = (none, s₀)) :
    translateTable M va acc m s =
      ((s₀.walkMiss M va acc).andThen (resolveWalk M va acc m)).andThen fun e t => useEntry M va acc m e t := by
  simp only [translateTable, found, missEntry_of_walk m policy]

theorem translated (M : Setup π) (va : Word) (acc : Access) (m : Mode) (s : State π) :
    Translated M va acc m s (translate M va acc m s) := by
  cases canonical : canonicalVa M va with
  | false =>
    rw [translate_of_not_canonical acc m s canonical]
    exact .refused (.inl rfl)
  | true =>
    by_cases window : s.superpage acc.side = true ∧ inSuperpage M va = true
    · obtain ⟨enabled, inside⟩ := window
      rw [translate_of_superpage m canonical enabled inside]
      split
      · exact .refused (.inr rfl)
      · exact .superpage
    · rw [translate_of_table m canonical window]
      cases found : s.lookup acc.side (vpnOf M va) with
      | mk entry s₀ =>
        cases entry with
        | some e =>
          rw [translateTable_of_hit m found]
          exact .hit found
        | none =>
          cases policy : M.personality.missPolicy acc.side with
          | fault =>
            rw [translateTable_of_miss m policy found]
            exact .miss found policy
          | walk =>
            rw [translateTable_of_walk m policy found]
            cases walked : s₀.walkMiss M va acc with
            | stopped f => exact .walkStopped found policy walked
            | raised k va' m' s₁ =>
              rcases walk_cases M (M.personality.walkPageTable (vpnOf M va) acc.side acc s₀) s₀ with ⟨_, _, _, _, e⟩ | e
              · cases e.symm.trans walked
              · cases e.symm.trans walked
            | ok answer s₁ =>
              cases answer with
              | fault k raisable => exact .walkFault found policy walked
              | pte p =>
                simp only [andThen_ok, resolveWalk]
                cases loaded : tlbLoad M acc.side (vpnOf M va) p s₁ with
                | stopped f => exact .loadStopped found policy walked loaded
                | ok e s₂ => exact .loaded found policy walked loaded
                | raised k va' m' s₂ =>
                  rcases tlbLoad_cases M acc.side (vpnOf M va) p s₁ with ⟨_, _, e, -⟩ | ⟨e, -⟩
                  · cases e.symm.trans loaded
                  · cases e.symm.trans loaded

/-! ### What a translation leaves alone -/

/-- What only a translation on a side may change is changed: that side's table but for its ASN, the draws and the record of
accesses. -/
def TableFrame (side : Side) (s t : State π) : Prop :=
  (∀ other, other ≠ side → t.tlb other = s.tlb other) ∧ (t.tlb side).asn = (s.tlb side).asn ∧
    t = { s with itlb := t.itlb, dtlb := t.dtlb, draws := t.draws, ioAnswers := t.ioAnswers, ioLog := t.ioLog }

theorem TableFrame.access {side : Side} {s t : State π} (frame : TableFrame side s t) (log : List IoAccess)
    (answers : List IoAnswer) (draws : Nat) :
    TableFrame side s { t with ioLog := log, ioAnswers := answers, draws := draws } := by
  obtain ⟨others, asn, whole⟩ := frame
  refine ⟨fun other ne => ?_, ?_, ?_⟩
  · rw [← others other ne]; cases other <;> rfl
  · rw [← asn]; cases side <;> rfl
  · conv_lhs => rw [whole]

theorem TableFrame.setTlb {side : Side} {s t : State π} (frame : TableFrame side s t) {u : Tlb}
    (kept : u.asn = (t.tlb side).asn) : TableFrame side s (t.setTlb side u) := by
  obtain ⟨others, asn, whole⟩ := frame
  refine ⟨fun other ne => ?_, ?_, ?_⟩
  · rw [State.setTlb_tlb_other t ne, others other ne]
  · rw [State.setTlb_tlb_same, kept, asn]
  · cases side
    · show ({ t with itlb := u } : State π) = _
      conv_lhs => rw [whole]
      rfl
    · show ({ t with dtlb := u } : State π) = _
      conv_lhs => rw [whole]
      rfl

theorem TableFrame.rfl {side : Side} {s : State π} : TableFrame side s s := ⟨fun _ _ => Eq.refl _, Eq.refl _, Eq.refl _⟩

/-- An entry whose use gives an address passed its check, and fills the mini-TLB (R100 step f). -/
theorem useEntry_ok {va : Word} {acc : Access} {m : Mode} {e : TlbEntry} {s s' : State π} {pa : PhysAddr}
    (used : useEntry M va acc m e s = .ok pa s') :
    pa = physOf M e va ∧ s' = s.setTlb acc.side { s.tlb acc.side with mini := some (vpnOf M va, e) } := by
  cases checked : checkPte e.pte acc m with
  | some k => cases (useEntry_of_fault s checked).symm.trans used
  | none =>
    cases (useEntry_of_pass s checked).symm.trans used
    exact ⟨rfl, rfl⟩

/-- An entry whose use raises changes nothing, and its check found the kind (R108). -/
theorem useEntry_raised {va va' : Word} {acc : Access} {m m' : Mode} {e : TlbEntry} {s s' : State π} {k : FaultKind}
    (used : useEntry M va acc m e s = .raised k va' m' s') :
    checkPte e.pte acc m = some k ∧ va' = va ∧ m' = m ∧ s' = s := by
  cases checked : checkPte e.pte acc m with
  | some k' =>
    cases (useEntry_of_fault s checked).symm.trans used
    exact ⟨rfl, rfl, rfl, rfl⟩
  | none => cases (useEntry_of_pass s checked).symm.trans used

theorem useEntry_not_stopped {va : Word} {acc : Access} {m : Mode} {e : TlbEntry} {s : State π} {f : Fault} :
    useEntry M va acc m e s ≠ .stopped f := fun used => by
  cases checked : checkPte e.pte acc m with
  | some k => cases (useEntry_of_fault s checked).symm.trans used
  | none => cases (useEntry_of_pass s checked).symm.trans used

/-- A lookup changes no more than the draws (R106). -/
theorem lookup_quiet {side : Side} {vpn : Vpn} {entry : Option TlbEntry} {s s₀ : State π}
    (found : s.lookup side vpn = (entry, s₀)) : s₀ = { s with draws := s₀.draws } := by
  obtain ⟨d, e⟩ := lookup_state s side vpn
  rw [found] at e
  simp only at e
  rw [e]

theorem tlb_draws (side : Side) (s : State π) (draws : Nat) : State.tlb { s with draws := draws } side = s.tlb side := by
  cases side <;> rfl

theorem tlb_access (side : Side) (s : State π) (log : List IoAccess) (answers : List IoAnswer) (draws : Nat) :
    State.tlb { s with ioLog := log, ioAnswers := answers, draws := draws } side = s.tlb side := by
  cases side <;> rfl

/-- What a walk of a miss leaves: the state of the translation, but for the draws and the record of accesses (R440). -/
theorem walked_state {va : Word} {acc : Access} {s s₀ s₁ : State π} {a : WalkAnswer M.personality.missPolicy}
    (found : s.lookup acc.side (vpnOf M va) = (none, s₀)) (walked : s₀.walkMiss M va acc = .ok a s₁) :
    ∃ log answers draws, s₁ = { s with ioLog := log, ioAnswers := answers, draws := draws } := by
  obtain ⟨d, drawn⟩ := lookup_state s acc.side (vpnOf M va)
  rw [found] at drawn
  rcases walk_cases M (M.personality.walkPageTable (vpnOf M va) acc.side acc s₀) s₀ with ⟨b, log, answers, draws, e⟩ | e
  · cases e.symm.trans walked
    exact ⟨log, answers, draws, by rw [show s₀ = _ from drawn]⟩
  · cases e.symm.trans walked

theorem walked_stopped {va : Word} {acc : Access} {s₀ : State π} {f : Fault} (walked : s₀.walkMiss M va acc = .stopped f) :
    f = .stopNxm := by
  rcases walk_cases M (M.personality.walkPageTable (vpnOf M va) acc.side acc s₀) s₀ with ⟨b, log, answers, draws, e⟩ | e
  · cases e.symm.trans walked
  · cases e.symm.trans walked
    rfl

theorem tlbLoad_stopped {side : Side} {vpn : Vpn} {p : Word} {s : State π} {f : Fault}
    (stopped : tlbLoad M side vpn p s = .stopped f) : f = .stopEngine := by
  rcases tlbLoad_cases M side vpn p s with ⟨_, _, e, -⟩ | ⟨e, -⟩
  · cases e.symm.trans stopped
  · cases e.symm.trans stopped
    rfl

/-- An installation by a walk, seen from the state of the translation: the entry of the PTE, in one slot (R110). -/
theorem installed {va : Word} {acc : Access} {s s₀ s₁ s₂ : State π} {a : WalkAnswer M.personality.missPolicy} {p : Word}
    {e : TlbEntry} (found : s.lookup acc.side (vpnOf M va) = (none, s₀)) (walked : s₀.walkMiss M va acc = .ok a s₁)
    (loaded : tlbLoad M acc.side (vpnOf M va) p s₁ = .ok e s₂) :
    TableFrame acc.side s s₂ ∧ e = pteEntry M (s.tlb acc.side).asn (vpnOf M va) p ∧
      ∃ slot, (s₂.tlb acc.side).slots = (s.tlb acc.side).slots.set slot (some e) := by
  obtain ⟨log, answers, draws, rfl⟩ := walked_state found walked
  rcases tlbLoad_cases M acc.side (vpnOf M va) p { s with ioLog := log, ioAnswers := answers, draws := draws }
    with ⟨slot, nlu, e, -⟩ | ⟨e, -⟩
  · cases e.symm.trans loaded
    refine ⟨(TableFrame.rfl.access log answers draws).setTlb rfl, by rw [tlb_access], slot, ?_⟩
    rw [State.setTlb_tlb_same, tlb_access]
  · cases e.symm.trans loaded

/-- The bits a check looks at are those of the PTE the entry was loaded from (R101, R108). -/
theorem pteEnable_pteEntry {asn : Asn} {vpn : Vpn} {p : Word} {acc : Access} {m : Mode} :
    pteEnable (pteEntry M asn vpn p).pte acc m = p.getLsbD ((if acc = .write then 12 else 8) + m.toNat) := by
  have := m.isLt
  have low : (if acc = .write then 12 else 8) + m.toNat < 16 := by split <;> omega
  rw [pteEnable_eq]
  simp [pteEntry, low]

theorem pteFaultOn_pteEntry {asn : Asn} {vpn : Vpn} {p : Word} {acc : Access} :
    pteFaultOn (pteEntry M asn vpn p).pte acc = p.getLsbD (if acc = .read then 1 else if acc = .write then 2 else 3) := by
  rw [pteFaultOn_eq]
  cases acc <;> simp [pteEntry]

theorem pteValid_pteEntry {asn : Asn} {vpn : Vpn} {p : Word} :
    pteValid (pteEntry M asn vpn p).pte = p.getLsbD 0 := by
  simp [pteValid, pteEntry]

/-- A check never finds a TLB miss (R108). -/
theorem checkPte_ne_tlbMiss {pte : BitVec 16} {acc missed : Access} {m : Mode} :
    checkPte pte acc m ≠ some (.tlbMiss missed) := fun h => by
  have kind := checkPte_kind h
  simp at kind

/-! ### Lookups (R104 to R106) -/

theorem TlbEntry.covers_iff (e : TlbEntry) (vpn : Vpn) : e.covers vpn = true ↔ vpn &&& ~~~e.ghMask = e.tag := beq_iff_eq

/-- What the mini-TLB answers is the entry it copies, which covers the page (R104). -/
theorem Tlb.miniHit_eq_some {t : Tlb} {vpn : Vpn} {e : TlbEntry} (hit : t.miniHit vpn = some e) :
    (∃ vpn', t.mini = some (vpn', e)) ∧ e.covers vpn = true := by
  rcases copied : t.mini with _ | ⟨vpn', e'⟩
  · simp [Tlb.miniHit, copied] at hit
  · simp only [Tlb.miniHit, copied, Option.ite_none_right_eq_some, Option.some.injEq] at hit
    obtain ⟨covers, rfl⟩ := hit
    exact ⟨⟨vpn', rfl⟩, covers⟩

/-- Where the mini-TLB copies an entry of the table, what a lookup finds is an entry that matches the page (R105). -/
theorem lookup_some {s s₀ : State π} {side : Side} {vpn : Vpn} {e : TlbEntry} {c : Config} {size : Nat}
    (consistent : (s.tlb side).Consistent c size) (found : s.lookup side vpn = (some e, s₀)) :
    e ∈ (s.tlb side).matching vpn := by
  unfold State.lookup at found
  split at found
  next e' hit =>
    cases found
    obtain ⟨⟨vpn', copied⟩, covers⟩ := Tlb.miniHit_eq_some hit
    obtain ⟨mem, asn, -⟩ := consistent.mini vpn' e copied
    exact (Tlb.mem_matching_iff _ _ _).mpr ⟨mem, asn, covers⟩
  next => exact (chooseMatch_mem s _).1 e (by rw [found])

theorem lookup_none {s s₀ : State π} {side : Side} {vpn : Vpn} (found : s.lookup side vpn = (none, s₀)) :
    (s.tlb side).matching vpn = [] := by
  unfold State.lookup at found
  split at found
  next => cases found
  next => exact (chooseMatch_mem s _).2 (by rw [found])

/-! ### Alignment (R72) -/

theorem Width.bytes_dvd_page (w : Width) : w.bytes ∣ 2 ^ 13 := by cases w <;> decide

theorem Width.bytes_dvd_eight (w : Width) : w.bytes ∣ 8 := by cases w <;> decide

/-- A superpage address keeps the offset in the page, and so the alignment (R103). -/
theorem bytes_dvd_superpagePa {w : Width} {va : Word} (aligned : w.bytes ∣ va.toNat) :
    w.bytes ∣ (superpagePa M va).toNat := by
  have low := M.valid.vaBits
  have page : 2 ^ 13 ∣ 2 ^ (M.vaBits - 2) := Nat.pow_dvd_pow 2 (by omega)
  have small : va.toNat % 2 ^ (M.vaBits - 2) < 2 ^ 64 := lt_of_le_of_lt (Nat.mod_le _ _) va.isLt
  rw [superpagePa_eq, BitVec.toNat_ofNat, Nat.mod_eq_of_lt small]
  exact (Nat.dvd_mod_iff (w.bytes_dvd_page.trans page)).mpr aligned

/-- The address of an entry keeps the offset in the page, and so the alignment (R109). -/
theorem bytes_dvd_physOf {w : Width} {va : Word} (e : TlbEntry) (aligned : w.bytes ∣ va.toNat) :
    w.bytes ∣ (physOf M e va).toNat := by
  have page := w.bytes_dvd_page
  rw [physOf_eq, BitVec.toNat_ofNat]
  refine (Nat.dvd_mod_iff (page.trans (Nat.pow_dvd_pow 2 (by decide)))).mpr ?_
  exact Nat.dvd_add (page.mul_left _) ((Nat.dvd_mod_iff page).mpr aligned)

theorem bytes_dvd_of_translate {w : Width} {va : Word} {acc : Access} {m : Mode} {s s' : State π} {pa : PhysAddr}
    (aligned : w.bytes ∣ va.toNat) (ended : translate M va acc m s = .ok pa s') : w.bytes ∣ pa.toNat := by
  have ways := translated M va acc m s
  rw [ended] at ways
  generalize outcome : (Result.ok pa s' : Result π PhysAddr) = r at ways
  cases ways with
  | refused | miss | walkStopped | walkFault | loadStopped => cases outcome
  | superpage =>
    cases outcome
    exact bytes_dvd_superpagePa aligned
  | hit =>
    obtain ⟨rfl, -⟩ := useEntry_ok outcome.symm
    exact bytes_dvd_physOf _ aligned
  | loaded =>
    obtain ⟨rfl, -⟩ := useEntry_ok outcome.symm
    exact bytes_dvd_physOf _ aligned

end Walks

/-- Settles O48, by the mini-TLB's answer and the table's. -/
theorem lookupIsTableMatch : Obligations.LookupIsTableMatch := by
  intro s side vpn consistent found
  have matches_iff (e : TlbEntry) : e ∈ (s.tlb side).matching vpn ↔ found e := by
    rw [Tlb.mem_matching_iff, TlbEntry.covers_iff]
  refine ⟨fun e s' answer => (matches_iff e).mp (lookup_some consistent answer), fun s' answer e match_e => ?_⟩
  have empty := (matches_iff e).mpr match_e
  rw [lookup_none answer] at empty
  exact List.not_mem_nil empty

/-- Settles O53: RAM ends at a multiple of 8, and so of the width (R7). -/
theorem alignedAccessesNeverStraddle : Obligations.AlignedAccessesNeverStraddle := by
  intro π M va acc m w s s' pa aligned ended
  have aligned_pa := bytes_dvd_of_translate aligned ended
  refine ⟨aligned_pa, fun inside => ?_⟩
  obtain ⟨k, hk⟩ := aligned_pa
  obtain ⟨n, hn⟩ := w.bytes_dvd_eight.trans M.valid.memSize.1
  rw [hk, hn] at inside ⊢
  have : k < n := Nat.lt_of_mul_lt_mul_left inside
  calc w.bytes * k + w.bytes = w.bytes * (k + 1) := by ring
    _ ≤ w.bytes * n := Nat.mul_le_mul_left _ this

/-- Settles O51: each of its parts by the way the translation ends. -/
theorem missPolicyInstallsOneEntry : Obligations.MissPolicyInstallsOneEntry := by
  intro π M va acc m s side vpn before walks walk installs framed
  have quiet {t : State π} (drawn : t = { s with draws := t.draws }) : framed t := by
    rw [drawn]
    exact TableFrame.rfl.access s.ioLog s.ioAnswers _
  have ways := translated M va acc m s
  refine ⟨fun s' pa ended => ?ok, fun k va' m' s' ended => ?raised, fun missed va' m' s' ended => ?missKind,
    fun f ended => ?stopped, fun canonical outside policy s₀ found => ?walks⟩
  case ok =>
    rw [ended] at ways
    generalize outcome : (Result.ok pa s' : Result π PhysAddr) = r at ways
    cases ways with
    | refused | miss | walkStopped | walkFault | loadStopped => cases outcome
    | superpage =>
      cases outcome
      exact ⟨TableFrame.rfl, .inl ⟨rfl, rfl⟩⟩
    | hit found =>
      obtain ⟨-, rfl⟩ := useEntry_ok outcome.symm
      have drawn := lookup_quiet found
      rw [drawn]
      exact ⟨(TableFrame.rfl.access s.ioLog s.ioAnswers _).setTlb rfl, .inl ⟨by rw [State.setTlb_tlb_same, tlb_draws],
        by rw [State.setTlb_tlb_same, tlb_draws]⟩⟩
    | loaded found policy walked loaded =>
      obtain ⟨-, rfl⟩ := useEntry_ok outcome.symm
      obtain ⟨frame, entry, slot⟩ := installed found walked loaded
      exact ⟨frame.setTlb rfl, .inr ⟨policy, _, _, _, _, _, found, walked, ⟨loaded, entry, slot⟩, rfl⟩⟩
  case raised =>
    rw [ended] at ways
    generalize outcome : (Result.raised k va' m' s' : Result π PhysAddr) = r at ways
    cases ways with
    | superpage | walkStopped | loadStopped => cases outcome
    | refused =>
      cases outcome
      exact ⟨rfl, rfl, TableFrame.rfl, .inl rfl⟩
    | miss found =>
      cases outcome
      exact ⟨rfl, rfl, quiet (lookup_quiet found), .inl (lookup_quiet found)⟩
    | walkFault found policy walked =>
      cases outcome
      obtain ⟨log, answers, draws, rfl⟩ := walked_state found walked
      exact ⟨rfl, rfl, TableFrame.rfl.access log answers draws, .inr ⟨policy, _, found, .inl ⟨⟨_, walked⟩, rfl⟩⟩⟩
    | hit found =>
      obtain ⟨-, rfl, rfl, rfl⟩ := useEntry_raised outcome.symm
      exact ⟨rfl, rfl, quiet (lookup_quiet found), .inl (lookup_quiet found)⟩
    | loaded found policy walked loaded =>
      obtain ⟨-, rfl, rfl, rfl⟩ := useEntry_raised outcome.symm
      obtain ⟨frame, entry, slot⟩ := installed found walked loaded
      exact ⟨rfl, rfl, frame, .inr ⟨policy, _, found, .inr ⟨_, _, _, walked, loaded, entry, slot⟩⟩⟩
  case missKind =>
    rw [ended] at ways
    generalize outcome : (Result.raised (.tlbMiss missed) va' m' s' : Result π PhysAddr) = r at ways
    cases ways with
    | superpage | walkStopped | loadStopped => cases outcome
    | refused kind =>
      cases outcome
      rcases kind with kind | kind <;> cases kind
    | miss found policy =>
      cases outcome
      exact policy
    | walkFault found policy walked =>
      cases outcome
      rename_i raisable
      exact of_decide_eq_true raisable
    | hit => exact absurd (useEntry_raised outcome.symm).1 checkPte_ne_tlbMiss
    | loaded => exact absurd (useEntry_raised outcome.symm).1 checkPte_ne_tlbMiss
  case stopped =>
    rw [ended] at ways
    generalize outcome : (Result.stopped f : Result π PhysAddr) = r at ways
    cases ways with
    | refused | superpage | miss | walkFault => cases outcome
    | walkStopped found policy walked =>
      cases outcome
      exact ⟨policy, .inl (walked_stopped walked)⟩
    | loadStopped found policy walked loaded =>
      cases outcome
      exact ⟨policy, .inr (tlbLoad_stopped loaded)⟩
    | hit => exact absurd outcome.symm useEntry_not_stopped
    | loaded => exact absurd outcome.symm useEntry_not_stopped
  case walks =>
    have table : translate M va acc m s = _ :=
      (translate_of_table m canonical (by simpa using outside)).trans (translateTable_of_walk m policy found)
    refine ⟨fun f walked => ?_, fun k h s₁ walked => ?_,
      fun p s₁ walked => ⟨fun f loaded => ?_, fun e s₂ loaded => ?_⟩⟩
    · rw [table, show s₀.walkMiss M va acc = _ from walked]
      rfl
    · rw [table, show s₀.walkMiss M va acc = _ from walked]
      rfl
    · rw [table, show s₀.walkMiss M va acc = _ from walked]
      exact congrArg (Result.andThen · _) loaded
    · obtain ⟨-, rfl, -⟩ := installed found walked loaded
      have used : translate M va acc m s = useEntry M va acc m (pteEntry M before.asn vpn p) s₂ := by
        rw [table, show s₀.walkMiss M va acc = _ from walked]
        exact congrArg (Result.andThen · _) loaded
      obtain ⟨notEnabled, invalid, faulting, passes⟩ := useEntry_cases M va acc m (pteEntry M before.asn vpn p) s₂
      rw [pteEnable_pteEntry, pteFaultOn_pteEntry, pteValid_pteEntry, ← used] at *
      exact ⟨notEnabled, invalid, faulting, fun enabled valid clear => by rw [passes enabled valid clear, physOf_eq]; rfl⟩

end Sys2Proof.Machine

/-! ## Proofs of the statements about the invariant: it holds at reset and every step keeps it (10_state, 60_exceptions R441) -/

namespace Sys2Proof.Machine

section Tables

variable {c : Config} {size : Nat} {t : Tlb}

/-! ### Operations that keep a table consistent (R46, R110 to R114) -/

/-- The mini-TLB may copy any entry of the table that matches (R104). -/
theorem Tlb.Consistent.fill (table : t.Consistent c size) {vpn : Vpn} {e : TlbEntry} (copied : e ∈ t.matching vpn) :
    Tlb.Consistent c size { t with mini := some (vpn, e) } := by
  refine ⟨table.slots, table.pointer, table.asn, table.entries, table.globals, fun vpn' e' h => ?_⟩
  cases h
  exact (t.mem_matching_iff vpn e).mp copied

/-- Invalidation leaves entries of the table only. -/
theorem Tlb.Consistent.drop (table : t.Consistent c size) {slots : List (Option TlbEntry)} {nlu : Nat}
    (length : slots.length = size) (pointer : nlu < size) (fewer : ∀ e, some e ∈ slots → some e ∈ t.slots) :
    Tlb.Consistent c size { t with slots := slots, nlu := nlu, mini := none } :=
  ⟨length, pointer, table.asn, fun e mem => table.entries e (fewer e mem), fun e mem => table.globals e (fewer e mem),
    fun _ _ h => by cases h⟩

theorem Tlb.Consistent.filter (table : t.Consistent c size) (keep : TlbEntry → Bool) :
    Tlb.Consistent c size { t with slots := t.slots.map (Option.filter keep), mini := none } := by
  refine table.drop (by rw [List.length_map, table.slots]) table.pointer fun e mem => ?_
  obtain ⟨slot, mem_slot, kept⟩ := List.mem_map.mp mem
  obtain ⟨rfl, -⟩ := Option.filter_eq_some_iff.mp kept
  exact mem_slot

theorem Tlb.Consistent.clear (table : t.Consistent c size) :
    Tlb.Consistent c size { t with slots := List.replicate t.slots.length none, nlu := 0, mini := none } :=
  table.drop (by rw [List.length_replicate, table.slots]) (Nat.zero_lt_of_lt table.pointer) fun e mem => by
    cases List.eq_of_mem_replicate mem

theorem TlbEntry.Consistent.retag {e : TlbEntry} (entry : e.Consistent c) {a : Asn} (width : a.toNat < 2 ^ c.asnBits) :
    (e.retag a).Consistent c := by
  unfold TlbEntry.retag
  split
  · obtain ⟨tag, pfn, -⟩ := entry.widths
    exact ⟨entry.mask, entry.wild, tag, pfn, width⟩
  · exact entry

/-- A change of ASN takes the global entries with it (R111). -/
theorem Tlb.Consistent.retag (table : t.Consistent c size) {a : Asn} (width : a.toNat < 2 ^ c.asnBits) :
    Tlb.Consistent c size { t with slots := t.slots.map (Option.map (TlbEntry.retag a)), asn := a, mini := none } := by
  have retagged {e : TlbEntry} (mem : some e ∈ t.slots.map (Option.map (TlbEntry.retag a))) :
      ∃ old, some old ∈ t.slots ∧ old.retag a = e := by
    obtain ⟨slot, mem_slot, tagged⟩ := List.mem_map.mp mem
    obtain ⟨old, rfl, rfl⟩ := Option.map_eq_some_iff.mp tagged
    exact ⟨old, mem_slot, rfl⟩
  refine ⟨by rw [List.length_map, table.slots], table.pointer, width, fun e mem => ?_, fun e mem isGlobal => ?_,
    fun _ _ h => by cases h⟩
  · obtain ⟨old, mem_old, rfl⟩ := retagged mem
    exact (table.entries old mem_old).retag width
  · obtain ⟨old, mem_old, rfl⟩ := retagged mem
    unfold TlbEntry.retag at isGlobal ⊢
    split
    next => rfl
    next notGlobal => rw [if_neg notGlobal] at isGlobal; exact absurd isGlobal notGlobal

/-- A load of a consistent entry of the current ASN, in place of any (R110). -/
theorem Tlb.Consistent.set (table : t.Consistent c size) {e : TlbEntry} (entry : e.Consistent c) (current : e.asn = t.asn)
    {slot nlu : Nat} (pointer : nlu < size) :
    Tlb.Consistent c size { t with slots := t.slots.set slot (some e), nlu := nlu, mini := none } := by
  refine ⟨by rw [List.length_set, table.slots], pointer, table.asn, fun e' mem => ?_, fun e' mem isGlobal => ?_,
    fun _ _ h => by cases h⟩
  · rcases List.mem_or_eq_of_mem_set mem with old | new
    · exact table.entries e' old
    · cases new
      exact entry
  · rcases List.mem_or_eq_of_mem_set mem with old | new
    · exact table.globals e' old isGlobal
    · cases new
      exact current

theorem Tlb.Consistent.empty (positive : 1 ≤ size) : (Tlb.empty size).Consistent c size := by
  refine ⟨List.length_replicate, positive, Nat.two_pow_pos _, fun e mem => ?_, fun e mem => ?_, fun _ _ h => by cases h⟩
  · cases List.eq_of_mem_replicate mem
  · cases List.eq_of_mem_replicate mem

theorem Tlb.slotOf_lt {tag : Vpn} {slot : Nat} (found : t.slotOf tag = some slot) : slot < t.slots.length := by
  rw [Tlb.slotOf_eq_findIdx?, List.findIdx?_eq_some_iff_getElem] at found
  obtain ⟨inside, -⟩ := found
  exact inside

end Tables

section LoadedEntries

variable {π : Type} {M : Setup π}

theorem and_not_and_self (x m : Word) : x &&& ~~~m &&& m = 0 := by
  rw [BitVec.and_assoc, BitVec.and_comm (~~~m), BitVec.and_not_self]
  exact BitVec.and_zero

/-- `TlbLoad` builds consistent entries (R110). -/
theorem pteEntry_consistent {asn : Asn} {vpn : Vpn} {p : Word} (width : asn.toNat < 2 ^ M.asnBits)
    (page : vpn.toNat < 2 ^ M.vpnBits) : (pteEntry M asn vpn p).Consistent M.toConfig := by
  have cut (x m : Word) : (x &&& ~~~m).toNat ≤ x.toNat := by
    rw [BitVec.toNat_and]
    exact Nat.and_le_left
  refine ⟨?_, ⟨and_not_and_self _ _, and_not_and_self _ _⟩, (cut _ _).trans_lt page, (cut _ _).trans_lt (field_lt p 32 _),
    width⟩
  have gh : (p.extractLsb' 0 16).extractLsb' 5 2 = p.extractLsb' 5 2 := by
    ext i hi
    simp only [BitVec.getElem_extractLsb', BitVec.getLsbD_extractLsb', Nat.zero_add]
    simp [show 5 + i < 16 by omega]
  show ghMask _ = ghMask ((p.extractLsb' 0 16).extractLsb' 5 2)
  rw [gh]

theorem pteEntry_covers (asn : Asn) (vpn : Vpn) (p : Word) : (pteEntry M asn vpn p).covers vpn = true :=
  (TlbEntry.covers_iff _ _).mpr rfl

end LoadedEntries

section Invariant

variable {π α : Type} {M : Setup π} {s : State π}

/-! ### What holds inside a step too -/

/-- What the invariant says that holds inside a step too: all but the pending traps and the halt request. -/
structure State.Sound (M : Setup π) (s : State π) : Prop where
  pc : s.pc.extractLsb' 0 2 = 0
  history : s.pcq.length = M.pcqSize ∧ s.pcqP < M.pcqSize
  palBase : s.palBase.extractLsb' 0 15 = 0 ∧ s.palBase.toNat < 2 ^ M.paBits
  excAddr : s.excAddr.getLsbD 1 = false
  memory : Memory.wf s.mem = true
  tags : s.itbTag.toNat < 2 ^ M.vpnBits ∧ s.dtbTag.toNat < 2 ^ M.vpnBits
  table : ∀ side, (s.tlb side).Consistent M.toConfig (M.tlbSize side)

/-- The stops that no configuration or engine fault causes. -/
def Fault.External (f : Fault) : Prop := f ≠ .stopEngine ∧ f ≠ .stopConfig

theorem Inv.sound (inv : Inv M s) : s.Sound M where
  pc := inv.pc
  history := inv.history
  palBase := inv.palBase
  excAddr := inv.excAddr
  memory := inv.memory
  tags := inv.tags
  table := fun side => by
    cases side with
    | instruction => exact inv.itlb
    | data => exact inv.dtlb

theorem State.Sound.inv (sound : s.Sound M) (traps : s.NoTraps) (halt : (s.privateRegisters M).haltReq = false) : Inv M s where
  pc := sound.pc
  history := sound.history
  palBase := sound.palBase
  excAddr := sound.excAddr
  traps := traps
  halt := halt
  memory := sound.memory
  tags := sound.tags
  itlb := sound.table .instruction
  dtlb := sound.table .data

theorem alignPc_low (v : Word) : (alignPc v).extractLsb' 0 2 = 0 := by
  ext i hi
  have low : i = 0 ∨ i = 1 := by omega
  rcases low with rfl | rfl <;> simp [alignPc]

theorem State.Sound.setPc (sound : s.Sound M) (v : Word) : (s.setPc v).Sound M where
  __ := sound
  pc := alignPc_low v

theorem State.Sound.writeInt (sound : s.Sound M) (r : Reg) (v : Word) : (s.writeInt r v).Sound M := by
  rw [writeInt_eq]
  exact { sound with }

theorem State.Sound.writeFp (sound : s.Sound M) (r : Reg) (v : Word) : (s.writeFp r v).Sound M := by
  rw [writeFp_eq]
  exact { sound with }

theorem State.Sound.exchange (sound : s.Sound M) : s.exchange.Sound M := by
  rw [exchange_eq]
  exact { sound with }

theorem State.Sound.pushPc (sound : s.Sound M) (v : Word) : (s.pushPc v).Sound M where
  __ := sound
  history := by
    obtain ⟨length, pointer⟩ := sound.history
    refine ⟨by rw [pushPc_length, length], ?_⟩
    rw [State.pushPc_pcqP, length]
    exact Nat.mod_lt _ (Nat.zero_lt_of_lt pointer)

theorem State.Sound.setTlb (sound : s.Sound M) {side : Side} {t : Tlb}
    (table : t.Consistent M.toConfig (M.tlbSize side)) : (s.setTlb side t).Sound M := by
  have tables (other : Side) : ((s.setTlb side t).tlb other).Consistent M.toConfig (M.tlbSize other) := by
    by_cases same : other = side
    · rw [same, State.setTlb_tlb_same]
      exact table
    · rw [State.setTlb_tlb_other _ same]
      exact sound.table other
  cases side with
  | instruction => exact { sound with table := tables }
  | data => exact { sound with table := tables }

theorem State.Sound.access (sound : s.Sound M) (log : List IoAccess) (answers : List IoAnswer) (draws : Nat) :
    State.Sound M { s with ioLog := log, ioAnswers := answers, draws := draws } := { sound with }

theorem State.Sound.writeBytes (sound : s.Sound M) (pa : Nat) (bytes : List Byte) :
    State.Sound M { s with mem := Memory.writeBytes s.mem pa bytes } :=
  { sound with memory := wf_writeBytes sound.memory pa bytes }

theorem State.Sound.enterFirmware (sound : s.Sound M) (offset : BitVec 15) (resume : Word) :
    (s.enterFirmware offset resume).Sound M := by
  have pc : (s.enterFirmware offset resume).pc.extractLsb' 0 2 = 0 := by
    rw [enterFirmware_pc]
    exact alignPc_low _
  have excAddr : (s.enterFirmware offset resume).excAddr.getLsbD 1 = false := by
    rw [enterFirmware_excAddr]
    exact packExcAddr_bit1 _ _
  rw [enterFirmware_frame]
  exact { sound with pc := pc, excAddr := excAddr }

theorem State.Sound.returnFromFirmware (sound : s.Sound M) (rs : Bool) : (s.returnFromFirmware rs).Sound M := by
  have pushed := sound.pushPc s.pc
  rw [returnFromFirmware_eq]
  exact { pushed with pc := alignPc_low _ }

theorem State.Sound.setAsn (sound : s.Sound M) (side : Side) {a : Asn} (width : a.toNat < 2 ^ M.asnBits) :
    (setAsn side a s).Sound M := by
  rw [setAsn_eq]
  exact sound.setTlb ((sound.table side).retag width)

theorem State.Sound.invalidateSingle (sound : s.Sound M) (side : Side) (va : Word) :
    (invalidateSingle M side va s).Sound M := by
  rw [invalidateSingle_eq]
  exact sound.setTlb ((sound.table side).filter _)

theorem State.Sound.invalidateAll (sound : s.Sound M) (side : Side) (includeGlobal : Bool) :
    (invalidateAll side includeGlobal s).Sound M := by
  cases includeGlobal with
  | false =>
    rw [invalidateAll_keeping_global]
    exact sound.setTlb ((sound.table side).filter _)
  | true =>
    rw [invalidateAll_whole]
    exact sound.setTlb (sound.table side).clear

/-! ### Loads of the tables and translations -/

/-- A load never stops, and the entry it installs is found by a lookup of its page (R110, R114). -/
theorem State.Sound.tlbLoad (sound : s.Sound M) (side : Side) {vpn : Vpn} (page : vpn.toNat < 2 ^ M.vpnBits) (p : Word) :
    ∃ e t, Machine.tlbLoad M side vpn p s = .ok e t ∧ t.Sound M ∧ e ∈ (t.tlb side).matching vpn := by
  have table := sound.table side
  have entry := pteEntry_consistent (p := p) table.asn page
  have installed {slot nlu : Nat} (inside : slot < (s.tlb side).slots.length) (pointer : nlu < M.tlbSize side) :
      let t := s.setTlb side
        { s.tlb side with
          slots := (s.tlb side).slots.set slot (some (pteEntry M (s.tlb side).asn vpn p)), nlu := nlu, mini := none }
      t.Sound M ∧ pteEntry M (s.tlb side).asn vpn p ∈ (t.tlb side).matching vpn := by
    refine ⟨sound.setTlb (table.set entry rfl pointer), ?_⟩
    rw [State.setTlb_tlb_same, Tlb.mem_matching_iff]
    exact ⟨List.mem_set inside _, rfl, pteEntry_covers _ vpn p⟩
  cases found : (s.tlb side).slotOf (pteEntry M (s.tlb side).asn vpn p).tag with
  | some slot => exact ⟨_, _, tlbLoad_of_slot found, installed (Tlb.slotOf_lt found) table.pointer⟩
  | none =>
    refine ⟨_, _, (tlbLoad_of_no_slot found).trans (if_pos table.pointer), installed ?_ ?_⟩
    · rw [table.slots]
      exact table.pointer
    · exact Nat.mod_lt _ (Nat.zero_lt_of_lt table.pointer)

theorem State.Sound.tlbLoad_ends (sound : s.Sound M) (side : Side) {vpn : Vpn} (page : vpn.toNat < 2 ^ M.vpnBits) (p : Word) :
    (Machine.tlbLoad M side vpn p s).Ends (State.Sound M) Fault.External := by
  obtain ⟨e, t, loaded, after, -⟩ := sound.tlbLoad side page p
  rw [loaded]
  exact after

/-- The use of an entry of the table that matches. -/
theorem State.Sound.useEntry (sound : s.Sound M) {va : Word} {acc : Access} {m : Mode} {e : TlbEntry}
    (copied : e ∈ (s.tlb acc.side).matching (vpnOf M va)) :
    (Machine.useEntry M va acc m e s).Ends (State.Sound M) Fault.External := by
  cases checked : checkPte e.pte acc m with
  | some k =>
    rw [useEntry_of_fault s checked]
    exact sound
  | none =>
    rw [useEntry_of_pass s checked]
    exact sound.setTlb ((sound.table acc.side).fill copied)

theorem external_stopNxm : Fault.stopNxm.External := ⟨by decide, by decide⟩

theorem external_stopPersonality (code : Nat) : (Fault.stopPersonality code).External := ⟨nofun, nofun⟩

theorem State.Sound.lookup {side : Side} {vpn : Vpn} {entry : Option TlbEntry} {s₀ : State π} (sound : s.Sound M)
    (found : s.lookup side vpn = (entry, s₀)) : s₀.Sound M := by
  rw [lookup_quiet found]
  exact sound.access s.ioLog s.ioAnswers _

theorem State.Sound.walked {va : Word} {acc : Access} {s₀ s₁ : State π} {a : WalkAnswer M.personality.missPolicy}
    (sound : s.Sound M) (found : s.lookup acc.side (vpnOf M va) = (none, s₀)) (walked : s₀.walkMiss M va acc = .ok a s₁) :
    s₁.Sound M := by
  obtain ⟨log, answers, draws, rfl⟩ := walked_state found walked
  exact sound.access log answers draws

theorem State.Sound.translate (sound : s.Sound M) (va : Word) (acc : Access) (m : Mode) :
    (Machine.translate M va acc m s).Ends (State.Sound M) Fault.External := by
  have page : (vpnOf M va).toNat < 2 ^ M.vpnBits := field_lt va _ _
  have ways := translated M va acc m s
  generalize Machine.translate M va acc m s = r at ways ⊢
  cases ways with
  | refused => exact sound
  | superpage => exact sound
  | miss found => exact sound.lookup found
  | hit found =>
    refine (sound.lookup found).useEntry ?_
    rw [lookup_quiet found, tlb_draws]
    exact lookup_some (sound.table acc.side) found
  | walkStopped found policy walked =>
    rw [walked_stopped walked]
    exact external_stopNxm
  | walkFault found policy walked => exact sound.walked found walked
  | loadStopped found policy walked loaded =>
    obtain ⟨e, t, installed, -⟩ := (sound.walked found walked).tlbLoad acc.side page _
    cases installed.symm.trans loaded
  | loaded found policy walked loaded =>
    obtain ⟨e, t, installed, after, copied⟩ := (sound.walked found walked).tlbLoad acc.side page _
    cases installed.symm.trans loaded
    exact after.useEntry copied

theorem sound_closed (M : Setup π) : Closed M (State.Sound M) Fault.External where
  writeInt r v sound := sound.writeInt r v
  writeFp r v sound := sound.writeFp r v
  setPc v sound := sound.setPc v
  trap _ _ sound := { sound with }
  access log answers draws sound := sound.access log answers draws
  translate va acc m sound := sound.translate va acc m
  missed := external_stopNxm

/-! ### Callbacks -/

/-- Every state the run of a callback leaves has the property `P`, and its stop the property `Q`. -/
def Run.Ends (P : State π → Prop) (Q : Fault → Prop) : Run π α → Prop
  | .answered _ s => P s
  | .stopped f => Q f

theorem run_ends {P : State π → Prop} {Q : Fault → Prop} (changes : ∀ (u : CallbackUpdate π) s, P s → P (u.apply M s))
    (calls : ∀ (c : CallbackCall) s, P s → (c.perform M s).Ends P Q) (p : Callback π α) (start : P s) :
    (p.run M s).Ends P Q := by
  obtain ⟨answers, stops⟩ := run_rule (M := M) (P := P) (Q := Q) changes
    (fun c s v t start performed => by have ended := calls c s start; rwa [performed] at ended)
    (fun c s k va m t start performed => by have ended := calls c s start; rwa [performed] at ended)
    (fun c s f start performed => by have ended := calls c s start; rwa [performed] at ended) p s start
  cases ended : p.run M s with
  | answered a t => exact answers a t ended
  | stopped f => exact stops f ended

/-- The calls of a callback, kept as by an instruction that may store, but for the load of a table. -/
theorem perform_ends {P : State π → Prop} {Q : Fault → Prop} (accessing : Accessing M P Q) (memory : KeptBy M P Q .memory)
    (load : ∀ side (vpn : Vpn) (p : Word) (s : State π), P s → (tlbLoad M side (field vpn 0 M.vpnBits) p s).Ends P Q)
    (c : CallbackCall) (s : State π) (holds : P s) : (c.perform M s).Ends P Q := by
  cases c with
  | memRead pa w => exact memRead_ends accessing holds pa w
  | memWrite pa w v => exact (memWrite_ends accessing memory holds pa w v).andThen fun _ _ done => done
  | vread va w m => exact vread_ends accessing holds va w m
  | vwrite va w v m => exact (vwrite_ends accessing memory holds va w v m).andThen fun _ _ done => done
  | tlbLoad side vpn p => exact (load side vpn p s holds).andThen fun _ _ done => done

/-- The changes a callback may make keep the invariant (R441). -/
theorem apply_sound (u : CallbackUpdate π) (s : State π) (sound : s.Sound M) : (u.apply M s).Sound M := by
  cases u with
  | pc v => exact sound.setPc v
  | excAddr v => exact { sound with excAddr := packExcAddr_bit1 v _ }
  | cm | ipl | palMode | lockFlag | privateState => exact { sound with }
  | writeInt r v => exact sound.writeInt r v
  | exchange => exact sound.exchange
  | setAsn side a => exact sound.setAsn side (field_lt a 0 _)
  | invalidateSingle side va => exact sound.invalidateSingle side va
  | invalidateAll side includeGlobal => exact sound.invalidateAll side includeGlobal
  | enterFirmware offset resume => exact sound.enterFirmware offset resume

theorem State.Sound.run (sound : s.Sound M) (p : Callback π α) : (p.run M s).Ends (State.Sound M) Fault.External :=
  run_ends apply_sound (perform_ends (sound_closed M).toAccessing (fun _ pa bytes stored => stored.writeBytes pa bytes)
    fun side vpn p _ loading => loading.tlbLoad_ends side (field_lt vpn 0 _) p) p sound

/-! ### Internal registers (R49) -/

theorem palBaseWritten_low (v : Word) (n : Nat) : (field v 15 n <<< 15).extractLsb' 0 15 = 0 := by
  ext i hi
  simp [hi]

/-- Bits `PA_BITS-1:15` of a value, in place. -/
theorem palBaseWritten_lt (M : Setup π) (v : Word) : (field v 15 (M.paBits - 15) <<< 15).toNat < 2 ^ M.paBits := by
  rw [palBaseWritten_eq, BitVec.toNat_ofNat]
  calc v.toNat % 2 ^ M.paBits / 2 ^ 15 * 2 ^ 15 % 2 ^ 64
    _ ≤ v.toNat % 2 ^ M.paBits / 2 ^ 15 * 2 ^ 15 := Nat.mod_le _ _
    _ ≤ v.toNat % 2 ^ M.paBits := Nat.div_mul_le_self _ _
    _ < 2 ^ M.paBits := Nat.mod_lt _ (Nat.two_pow_pos _)

theorem State.Sound.write (sound : s.Sound M) {r : Ipr} {v : Word} {res : Result π Unit} (written : r.write M v s = some res) :
    res.Ends (State.Sound M) Fault.External := by
  cases r with
  | excAddr => cases written; exact { sound with excAddr := packExcAddr_bit1 v _ }
  | palBase => cases written; exact { sound with palBase := ⟨palBaseWritten_low v _, palBaseWritten_lt M v⟩ }
  | fwCtl | cm | altMode | ipl | excSum | lockFlag | halt | palTemp k => cases written; exact { sound with }
  | itbTag => cases written; exact { sound with tags := ⟨field_lt v _ _, sound.tags.2⟩ }
  | dtbTag => cases written; exact { sound with tags := ⟨sound.tags.1, field_lt v _ _⟩ }
  | itbPte => cases written; exact (sound.tlbLoad_ends .instruction sound.tags.1 v).andThen fun _ _ done => done
  | dtbPte => cases written; exact (sound.tlbLoad_ends .data sound.tags.2 v).andThen fun _ _ done => done
  | itbAsn | dtbAsn => cases written; exact sound.setAsn _ (field_lt v 0 _)
  | itbIs | dtbIs => cases written; exact sound.invalidateSingle _ v
  | itbIap | itbIa | dtbIap | dtbIa => cases written; exact sound.invalidateAll _ _
  | tbIs => cases written; exact (sound.invalidateSingle _ v).invalidateSingle _ v
  | tbIap | tbIa => cases written; exact (sound.invalidateAll _ _).invalidateAll _ _
  | intSumm | intId | excMask | faultKind | faultVa | shdwAct | pcq => cases written

theorem State.Sound.iprWrite (sound : s.Sound M) (index : BitVec 16) (v : Word) :
    (iprWrite M index v s).Ends (State.Sound M) Fault.External := by
  unfold Machine.iprWrite
  split
  next r _ =>
    split
    next written => exact sound.write written
    next => exact sound
  next => exact sound

/-! ### Instructions -/

theorem State.Sound.endPrivilegedOpcode (sound : s.Sound M) {r : Run π OpcodeAnswer}
    (ran : r.Ends (State.Sound M) Fault.External) :
    EndsIn M (State.Sound M) Fault.External (endPrivilegedOpcode M s r) := by
  cases r with
  | stopped f => exact ⟨.stopped f, rfl, ran⟩
  | answered a t =>
    cases a with
    | done => exact ⟨.ok () (t.setPc s.npc), rfl, ran.setPc _⟩
    | doneAt => exact ⟨.ok () t, rfl, ran⟩
    | again => exact ⟨.ok () (t.setPc s.pc), rfl, ran.setPc _⟩
    | fault k va => exact ⟨raise k va (s.withAccessRecord t), rfl, sound.access _ _ _⟩
    | stop code => exact ⟨.stopped (.stopPersonality code), rfl, external_stopPersonality code⟩

theorem sound_keptBy (M : Setup π) (c : Special) : KeptBy M (State.Sound M) Fault.External c := by
  cases c with
  | memory => exact fun s pa bytes sound => sound.writeBytes pa bytes
  | lockFlag | intrFlag | fpcr => exact fun s _ sound => { sound with }
  | history => exact fun s v sound => sound.pushPc v
  | returning => exact fun s rs sound => sound.returnFromFirmware rs
  | register index => exact fun s v sound => sound.iprWrite index v
  | call => exact fun s code sound => sound.endPrivilegedOpcode (sound.run _)

theorem State.Sound.execUnder (sound : s.Sound M) (i : Instr) :
    EndsIn M (State.Sound M) Fault.External (execUnder M i s) :=
  execUnder_endsIn (sound_closed M) (fun c _ => sound_keptBy M c) sound

/-! ### Steps -/

/-- An outcome's next state has the property `P` and its stop the property `Q`. -/
def Leaves (P : State π → Prop) (Q : Fault → Prop) (o : Host.Outcome (State π) Fault Refusal) : Prop :=
  (∀ t, o = .next t → P t) ∧ ∀ f, o = .fault f → Q f

theorem leaves_next {P : State π → Prop} {Q : Fault → Prop} (holds : P s) : Leaves P Q (.next s) :=
  ⟨fun t e => by cases e; exact holds, fun f e => by cases e⟩

theorem leaves_fault {P : State π → Prop} {Q : Fault → Prop} {f : Fault} (stop : Q f) :
    Leaves P Q (.fault f : Host.Outcome (State π) Fault Refusal) :=
  ⟨fun t e => (by cases e), fun g e => by cases e; exact stop⟩

theorem State.Sound.entered (sound : s.Sound M) (p : Callback π EntryAnswer) :
    Leaves (State.Sound M) (· ≠ .stopEngine) (enteredOutcome (p.run M s)) := by
  have ran := sound.run p
  cases ended : p.run M s with
  | stopped f =>
    rw [ended] at ran
    exact leaves_fault ran.1
  | answered a t =>
    rw [ended] at ran
    cases a with
    | entered => exact leaves_next ran
    | stop code => exact leaves_fault nofun

theorem State.Sound.dispatchFault (sound : s.Sound M) (k : FaultKind) (va : Word) (m : Mode) :
    Leaves (State.Sound M) (· ≠ .stopEngine) (dispatchFault M k va m s) := by
  have ran := sound.run (M.personality.enterOnException k va m s.pc s)
  unfold Machine.dispatchFault
  cases ended : (M.personality.enterOnException k va m s.pc s).run M s with
  | stopped f =>
    rw [ended] at ran
    exact leaves_fault ran.1
  | answered a t =>
    rw [ended] at ran
    cases a with
    | entered => exact leaves_next ran
    | unexpected => exact leaves_fault nofun
    | stop code => exact leaves_fault nofun

theorem finish_leaves {r : Result π Unit} (ends : r.Ends (State.Sound M) Fault.External) :
    Leaves (State.Sound M) (· ≠ .stopEngine) (finish M r) := by
  cases r with
  | ok u s =>
    by_cases clear : s.trapSumm = 0
    · rw [finish_ok clear]
      exact leaves_next ends
    · rw [finish_pending clear]
      have cleared : State.Sound M { s with trapSumm := 0, trapMask := 0 } := { (show s.Sound M from ends) with }
      exact cleared.entered _
  | raised k va m s => exact State.Sound.dispatchFault ends k va m
  | stopped f => exact leaves_fault ends.1

theorem State.Sound.fetchWord (sound : s.Sound M) : (fetchWord M s).Ends (State.Sound M) Fault.External := by
  have placed : (fetchAddr M s).Ends (State.Sound M) Fault.External := by
    unfold fetchAddr
    split
    · exact sound
    · exact sound.translate s.pc .execute s.cm
  exact placed.andThen fun pa _ located => (memRead_ends (sound_closed M).toAccessing located pa .long).andThen fun _ _ read => read

theorem State.Sound.runInstruction (sound : s.Sound M) :
    EndsIn M (State.Sound M) Fault.External (runInstruction M s) := by
  have read := sound.fetchWord
  unfold Machine.runInstruction
  cases fetched : Machine.fetchWord M s with
  | ok w t =>
    rw [fetched] at read
    show EndsIn M _ _ (runWord M w t)
    unfold runWord
    split
    · exact State.Sound.execUnder read _
    · exact endsIn_finish read
  | raised k va m t =>
    rw [fetched] at read
    exact endsIn_finish read
  | stopped f =>
    rw [fetched] at read
    exact ⟨.stopped f, rfl, read⟩

theorem State.Sound.boundary (sound : s.Sound M) :
    Leaves (State.Sound M) (· ≠ .stopEngine) (boundary M s) := by
  unfold Machine.boundary
  split
  · obtain ⟨r, ended, ends⟩ := sound.runInstruction
    rw [ended]
    exact finish_leaves ends
  · exact sound.entered _

theorem State.Sound.endStep (sound : s.Sound M) : (s.endStep M).Sound M := by
  unfold State.endStep State.sampleIrq
  split
  · exact { sound with }
  · exact { sound with }

/-- The end of a step clears the halt request (R447). -/
theorem endStep_haltReq (M : Setup π) (s : State π) : ((s.endStep M).privateRegisters M).haltReq = false := by
  show (M.personality.registers.get (M.personality.registers.set _ _)).haltReq = false
  rw [M.personality.registers.get_set]

/-- Every step keeps the invariant, and none is the engine's own stop (R114). -/
theorem stepUnder_leaves (inv : Inv M s) : Leaves (Inv M) (· ≠ .stopEngine) (stepUnder M s) := by
  obtain ⟨next, fault⟩ := inv.sound.boundary
  refine ⟨fun t stepped => ?_, fun f stopped => ?_⟩
  · have quiet := stepUnder_noTraps inv.traps M t stepped
    unfold stepUnder at stepped
    cases ended : boundary M s with
    | next u =>
      rw [ended] at stepped
      cases stepped
      exact (next u ended).endStep.inv quiet (endStep_haltReq M u)
    | fault f => rw [ended] at stepped; cases stepped
    | refused r => rw [ended] at stepped; cases stepped
  · unfold stepUnder at stopped
    cases ended : boundary M s with
    | next u => rw [ended] at stopped; cases stopped
    | fault g =>
      rw [ended] at stopped
      cases stopped
      exact fault f ended
    | refused r => rw [ended] at stopped; cases stopped

/-- Under NATIVE an instruction stops only in a stop of its own: its callbacks answer no other (R442). -/
theorem fault_of_finish_native {N : Setup NativeState} (native : N.personality = nativePersonality)
    {r : Result NativeState Unit} {f : Fault} (stopped : finish N r = .fault f) : r = .stopped f := by
  rcases finish_cases native r with ⟨u, s, -, -, e⟩ | ⟨u, s, -, -, e⟩ | ⟨k, va, m, s, -, e⟩ | ⟨c, ended, e⟩
  · cases e.symm.trans stopped
  · cases e.symm.trans stopped
  · cases e.symm.trans stopped
  · cases e.symm.trans stopped
    exact ended

/-- NATIVE expects every fault kind (R442, R446). -/
theorem step_ne_stopConfig {s : State} (inv : Inv nativeSetup s) : step s ≠ .fault .stopConfig := fun stopped => by
  have at_boundary : boundary nativeSetup s = .fault .stopConfig := by
    cases ended : boundary nativeSetup s with
    | next u => cases (congrArg (closeStep nativeSetup) ended).symm.trans stopped
    | fault g =>
      cases (congrArg (closeStep nativeSetup) ended).symm.trans stopped
      rfl
    | refused r => cases (congrArg (closeStep nativeSetup) ended).symm.trans stopped
  unfold boundary at at_boundary
  split at at_boundary
  · obtain ⟨r, ended, ends⟩ := inv.sound.runInstruction
    rw [ended] at at_boundary
    rw [fault_of_finish_native rfl at_boundary] at ends
    obtain ⟨-, expected⟩ : Fault.External .stopConfig := ends
    exact expected rfl
  · rw [takeInterrupt_native] at at_boundary
    cases at_boundary

/-! ### Reset and the configuration -/

theorem reset_sound (M : Setup π) {ram : List Host.Cell} (canonical : Memory.wf ram = true) : (M.reset ram).Sound M where
  pc := alignPc_low _
  history := by
    obtain ⟨k, size⟩ := M.valid.pcqSize
    refine ⟨List.length_replicate, ?_⟩
    rw [size]
    exact Nat.two_pow_pos k
  palBase := ⟨rfl, Nat.two_pow_pos _⟩
  excAddr := BitVec.getLsbD_zero
  memory := canonical
  tags := ⟨Nat.two_pow_pos _, Nat.two_pow_pos _⟩
  table := fun side => by
    cases side with
    | instruction => exact Tlb.Consistent.empty M.valid.itlbSize
    | data => exact Tlb.Consistent.empty M.valid.dtlbSize

/-- The test of a configuration is R7's constraints. -/
theorem check_iff_valid (c : Config) : c.check = true ↔ c.Valid := by
  refine ⟨Config.valid_of_check, fun valid => decide_eq_true ?_⟩
  obtain ⟨va, pa, pfn, asn, itlb, dtlb, ⟨k, pcq⟩, mem, window⟩ := valid
  exact ⟨va, pa, pfn, asn, itlb, dtlb, by rw [pcq, Nat.log2_two_pow], mem, window⟩

end Invariant

/-! ### The statements -/

/-- Settles O60, by the invariant that holds inside a step. -/
theorem everyMachineKeepsInvariant : Obligations.EveryMachineKeepsInvariant := by
  refine ⟨fun π c P fp io => ⟨fun valid => ?_, fun refused => ?_⟩, exec_eq_execUnder, fun s => rfl, fun π M s inv => ?_⟩
  · exact ⟨_, dif_pos ((check_iff_valid c).mpr valid), rfl, rfl, rfl, rfl⟩
  · exact dif_neg fun checked => refused ((check_iff_valid c).mp checked)
  · obtain ⟨next, fault⟩ := stepUnder_leaves inv
    exact ⟨next, fun stopped => fault _ stopped rfl⟩

/-- Settles O56, as every machine's step, with no configuration stop under NATIVE. -/
theorem everyStepKeepsInvariant : Obligations.EveryStepKeepsInvariant := fun s inv => by
  obtain ⟨next, fault⟩ := stepUnder_leaves inv
  exact ⟨next, fun stopped => fault _ stopped rfl, step_ne_stopConfig inv⟩

/-- Settles O55. -/
theorem resetMeetsInvariant : Obligations.ResetMeetsInvariant := by
  have meets {π : Type} (M : Setup π) {ram : List Host.Cell} (canonical : Memory.wf ram = true)
      (halt : (M.personality.registers.get M.personality.resetPrivate).haltReq = false) : Inv M (M.reset ram) :=
    (reset_sound M canonical).inv ⟨rfl, rfl⟩ halt
  exact ⟨fun π M ram canonical halt => meets M canonical halt, rfl, meets nativeSetup rfl rfl⟩

end Sys2Proof.Machine

/-! ## Proofs of the statements about who may change what (10_state, 60_exceptions R461, 47_firmware_opcodes R380) -/

namespace Sys2Proof.Machine

/-! ### Pieces of state -/

/-- A piece of the state that few instructions may change. -/
inductive Piece where
  | cm
  | ipl
  /-- The four bits of `FW_CTL`. -/
  | control
  | palBase
  | altMode
  | palTemp
  | tags
  /-- Both tables, but for the mini-TLBs. -/
  | tables
  | palMode
  | intrFlag
  | fpcr
  | lockFlag
  | history
  | memory
  deriving DecidableEq

/-- The piece is the same in both states. -/
def Piece.Kept (p : Piece) (s t : State) : Prop :=
  match p with
  | .cm => t.cm = s.cm
  | .ipl => t.ipl = s.ipl
  | .control => t.fpen = s.fpen ∧ t.sde = s.sde ∧ t.ispe = s.ispe ∧ t.dspe = s.dspe
  | .palBase => t.palBase = s.palBase
  | .altMode => t.altMode = s.altMode
  | .palTemp => t.ps.palTemp = s.ps.palTemp
  | .tags => t.itbTag = s.itbTag ∧ t.dtbTag = s.dtbTag
  | .tables => ∀ side, (t.tlb side).slots = (s.tlb side).slots ∧ (t.tlb side).nlu = (s.tlb side).nlu ∧
      (t.tlb side).asn = (s.tlb side).asn
  | .palMode => t.palMode = s.palMode
  | .intrFlag => t.intrFlag = s.intrFlag
  | .fpcr => t.fpcr = s.fpcr
  | .lockFlag => t.lockFlag = s.lockFlag
  | .history => t.pcqP = s.pcqP ∧ t.pcq = s.pcq
  | .memory => t.mem = s.mem

/-- The pieces a write of an internal register changes (R49). -/
def Ipr.touches : Ipr → List Piece
  | .palBase => [.palBase]
  | .fwCtl => [.control]
  | .cm => [.cm]
  | .altMode => [.altMode]
  | .ipl => [.ipl]
  | .lockFlag => [.lockFlag]
  | .itbTag | .dtbTag => [.tags]
  | .itbPte | .itbAsn | .itbIs | .itbIap | .itbIa | .dtbPte | .dtbAsn | .dtbIs | .dtbIap | .dtbIa | .tbIs | .tbIap | .tbIa =>
    [.tables]
  | .palTemp _ => [.palTemp]
  | _ => []

/-- The pieces changed by what only some instructions do, under NATIVE. -/
def Special.touches (M : Setup NativeState) : Special → List Piece
  | .memory => [.memory]
  | .lockFlag => [.lockFlag]
  | .intrFlag => [.intrFlag]
  | .fpcr => [.fpcr]
  | .history => [.history]
  | .returning => [.history, .lockFlag, .palMode]
  | .register index => ((Ipr.ofIndex M index).map Ipr.touches).getD []
  | .call => [.palMode]

section Pieces

variable {M : Setup NativeState} {p : Piece} {ps : List Piece} {s t : State}

theorem Piece.kept_rfl (p : Piece) (s : State) : p.Kept s s := by
  cases p with
  | control => exact ⟨rfl, rfl, rfl, rfl⟩
  | tags | history => exact ⟨rfl, rfl⟩
  | tables => exact fun _ => ⟨rfl, rfl, rfl⟩
  | _ => rfl

/-! ### What every instruction may do keeps every piece -/

theorem Piece.Kept.writeInt (kept : p.Kept s t) (r : Reg) (v : Word) : p.Kept s (t.writeInt r v) := by
  rw [writeInt_eq]
  cases p with | _ => exact kept

theorem Piece.Kept.writeFp (kept : p.Kept s t) (r : Reg) (v : Word) : p.Kept s (t.writeFp r v) := by
  rw [writeFp_eq]
  cases p with | _ => exact kept

theorem Piece.Kept.setPc (kept : p.Kept s t) (v : Word) : p.Kept s (t.setPc v) := by
  cases p with | _ => exact kept

theorem Piece.Kept.trap (kept : p.Kept s t) (bits : BitVec 7) (reg : BitVec 6) : p.Kept s (t.trap bits reg) := by
  cases p with | _ => exact kept

theorem Piece.Kept.access (kept : p.Kept s t) (log : List IoAccess) (answers : List IoAnswer) (draws : Nat) :
    p.Kept s { t with ioLog := log, ioAnswers := answers, draws := draws } := by
  cases p with | _ => exact kept

theorem Piece.Kept.setTlb_mini (kept : p.Kept s t) (side : Side) (mini : Option (Vpn × TlbEntry)) :
    p.Kept s (t.setTlb side { t.tlb side with mini := mini }) := by
  cases p with
  | tables =>
    intro other
    by_cases same : other = side
    · rw [same, State.setTlb_tlb_same]
      exact kept side
    · rw [State.setTlb_tlb_other _ same]
      exact kept other
  | _ => cases side <;> exact kept

theorem Piece.Kept.translate (native : M.personality = nativePersonality) (kept : p.Kept s t) (va : Word) (acc : Access)
    (m : Mode) : (translate M va acc m t).Ends (p.Kept s) fun _ => True := by
  cases ended : Machine.translate M va acc m t with
  | ok pa t' =>
    obtain ⟨d, mini, rfl⟩ := translate_ok_state (native_missPolicy native acc.side) ended
    have drawn := kept.access t.ioLog t.ioAnswers d
    exact tlb_draws acc.side t d ▸ drawn.setTlb_mini acc.side mini
  | raised k va' m' t' =>
    obtain ⟨-, -, d, rfl⟩ := translate_raised_state (native_missPolicy native acc.side) ended
    exact kept.access t.ioLog t.ioAnswers d
  | stopped f => trivial

/-- A state in which all the pieces are the same. -/
def State.Same (ps : List Piece) (s t : State) : Prop := ∀ p ∈ ps, p.Kept s t

theorem same_closed (native : M.personality = nativePersonality) (ps : List Piece) (s : State) :
    Closed M (State.Same ps s) fun _ => True where
  writeInt r v same p mem := (same p mem).writeInt r v
  writeFp r v same p mem := (same p mem).writeFp r v
  setPc v same p mem := (same p mem).setPc v
  trap bits reg same p mem := (same p mem).trap bits reg
  access log answers draws same p mem := (same p mem).access log answers draws
  translate {t} va acc m same := by
    have kept := fun p mem => (same p mem).translate native va acc m
    generalize translate M va acc m t = r at kept ⊢
    cases r with
    | ok a u => exact kept
    | raised k va m u => exact kept
    | stopped f => trivial
  missed := trivial

/-! ### What only some instructions do keeps the pieces it does not touch -/

theorem Piece.Kept.setTlb (kept : p.Kept s t) (untouched : p ∉ [Piece.tables]) (side : Side) (u : Tlb) :
    p.Kept s (t.setTlb side u) := by
  cases p with
  | tables => exact absurd (.head _) untouched
  | _ => cases side <;> exact kept

theorem Piece.Kept.tlbLoad (kept : p.Kept s t) (untouched : p ∉ [Piece.tables]) (side : Side) (vpn : Vpn) (v : Word) :
    ((tlbLoad M side vpn v t).andThen fun _ u => .ok () u).Ends (p.Kept s) fun _ => True := by
  rcases tlbLoad_cases M side vpn v t with ⟨slot, nlu, loaded, -⟩ | ⟨stopped, -⟩
  · rw [loaded]
    exact kept.setTlb untouched side _
  · rw [stopped]
    trivial

theorem Piece.Kept.setAsn (kept : p.Kept s t) (untouched : p ∉ [Piece.tables]) (side : Side) (a : Asn) :
    p.Kept s (setAsn side a t) := kept.setTlb untouched side _

theorem Piece.Kept.invalidateSingle (kept : p.Kept s t) (untouched : p ∉ [Piece.tables]) (side : Side) (va : Word) :
    p.Kept s (invalidateSingle M side va t) := kept.setTlb untouched side _

theorem Piece.Kept.invalidateAll (kept : p.Kept s t) (untouched : p ∉ [Piece.tables]) (side : Side) (includeGlobal : Bool) :
    p.Kept s (invalidateAll side includeGlobal t) := kept.setTlb untouched side _

/-- A write of an internal register keeps the pieces the register does not touch (R49). -/
theorem Piece.Kept.write (native : M.personality = nativePersonality) {r : Ipr} {v : Word} {res : Result NativeState Unit}
    (kept : p.Kept s t) (untouched : p ∉ r.touches) (written : r.write M v t = some res) :
    res.Ends (p.Kept s) fun _ => True := by
  have set {n : NativeState} : t.setPrivate M n = { t with ps := n } := by rw [State.setPrivate, native]; rfl
  have get : t.privateRegisters M = t.ps := by rw [State.privateRegisters, native]; rfl
  cases r with
  | excAddr => cases written; cases p with | _ => exact kept
  | excSum | halt =>
    cases written
    rw [set, get]
    cases p with | _ => exact kept
  | palTemp k =>
    cases written
    rw [set, get]
    cases p with
    | palTemp => exact absurd (.head _) untouched
    | _ => exact kept
  | palBase =>
    cases written
    cases p with
    | palBase => exact absurd (.head _) untouched
    | _ => exact kept
  | fwCtl =>
    cases written
    cases p with
    | control => exact absurd (.head _) untouched
    | _ => exact kept
  | cm =>
    cases written
    cases p with
    | cm => exact absurd (.head _) untouched
    | _ => exact kept
  | altMode =>
    cases written
    cases p with
    | altMode => exact absurd (.head _) untouched
    | _ => exact kept
  | ipl =>
    cases written
    cases p with
    | ipl => exact absurd (.head _) untouched
    | _ => exact kept
  | lockFlag =>
    cases written
    cases p with
    | lockFlag => exact absurd (.head _) untouched
    | _ => exact kept
  | itbTag | dtbTag =>
    cases written
    cases p with
    | tags => exact absurd (.head _) untouched
    | _ => exact kept
  | itbPte | dtbPte => cases written; exact kept.tlbLoad untouched _ _ v
  | itbAsn | dtbAsn => cases written; exact kept.setAsn untouched _ _
  | itbIs | dtbIs => cases written; exact kept.invalidateSingle untouched _ v
  | itbIap | itbIa | dtbIap | dtbIa => cases written; exact kept.invalidateAll untouched _ _
  | tbIs => cases written; exact (kept.invalidateSingle untouched _ v).invalidateSingle untouched _ v
  | tbIap | tbIa => cases written; exact (kept.invalidateAll untouched _ _).invalidateAll untouched _ _
  | intSumm | intId | excMask | faultKind | faultVa | shdwAct | pcq => cases written

theorem Piece.Kept.iprWrite (native : M.personality = nativePersonality) {index : BitVec 16} (kept : p.Kept s t)
    (untouched : p ∉ (Special.register index).touches M) (v : Word) :
    (iprWrite M index v t).Ends (p.Kept s) fun _ => True := by
  unfold Machine.iprWrite
  cases named : Ipr.ofIndex M index with
  | none => exact kept
  | some r =>
    have untouched : p ∉ r.touches := by simpa only [Special.touches, named, Option.map_some, Option.getD_some] using untouched
    cases written : r.write M v t with
    | none =>
      simp only [written]
      exact kept
    | some res =>
      simp only [written]
      exact kept.write native untouched written

theorem Piece.Kept.enterFirmware (kept : p.Kept s t) (untouched : p ∉ [Piece.palMode]) (offset : BitVec 15) (resume : Word) :
    p.Kept s (t.enterFirmware offset resume) := by
  rw [enterFirmware_frame]
  cases p with
  | palMode => exact absurd (.head _) untouched
  | _ => exact kept

theorem Piece.Kept.returnFromFirmware (kept : p.Kept s t) (untouched : p ∉ [Piece.history, .lockFlag, .palMode]) (rs : Bool) :
    p.Kept s (t.returnFromFirmware rs) := by
  rw [returnFromFirmware_eq]
  cases p with
  | history | lockFlag | palMode => exact absurd (by simp) untouched
  | _ => exact kept

/-- NATIVE's answer to a `CALL_PAL` (R442). -/
theorem endPrivilegedOpcode_native (native : M.personality = nativePersonality) (code : BitVec 8) (t : State) :
    endPrivilegedOpcode M t ((M.personality.executePrivilegedOpcode code t).run M t) = finish M (.ok () (nativeCall code t)) := by
  rw [native]
  rfl

/-- What only some instructions do keeps the pieces it does not touch. -/
theorem same_keptBy (native : M.personality = nativePersonality) {c : Special} (untouched : ∀ p ∈ ps, p ∉ c.touches M) :
    KeptBy M (State.Same ps s) (fun _ => True) c := by
  have keeps {t u : State} (same : s.Same ps t) (change : ∀ p, p.Kept s t → p ∉ c.touches M → p.Kept s u) : s.Same ps u :=
    fun p mem => change p (same p mem) (untouched p mem)
  cases c with
  | memory =>
    refine fun t pa bytes same => keeps same fun p kept other => ?_
    cases p with
    | memory => exact absurd (.head _) other
    | _ => exact kept
  | lockFlag =>
    refine fun t flag same => keeps same fun p kept other => ?_
    cases p with
    | lockFlag => exact absurd (.head _) other
    | _ => exact kept
  | intrFlag =>
    refine fun t flag same => keeps same fun p kept other => ?_
    cases p with
    | intrFlag => exact absurd (.head _) other
    | _ => exact kept
  | fpcr =>
    refine fun t v same => keeps same fun p kept other => ?_
    cases p with
    | fpcr => exact absurd (.head _) other
    | _ => exact kept
  | history =>
    refine fun t v same => keeps same fun p kept other => ?_
    cases p with
    | history => exact absurd (.head _) other
    | _ => exact kept
  | returning => exact fun t rs same => keeps same fun p kept other => kept.returnFromFirmware other rs
  | register index =>
    intro t v same
    have kept := fun p mem => (same p mem).iprWrite native (untouched p mem) v
    generalize iprWrite M index v t = r at kept ⊢
    cases r with
    | ok a u => exact kept
    | raised k va m u => exact kept
    | stopped f => trivial
  | call =>
    intro t code same
    rw [endPrivilegedOpcode_native native]
    exact ⟨_, rfl, keeps same fun p kept other => kept.enterFirmware other _ _⟩

theorem execUnder_same (native : M.personality = nativePersonality) {i : Instr}
    (untouched : ∀ c ∈ specials i, ∀ p ∈ ps, p ∉ c.touches M) :
    EndsIn M (State.Same ps s) (fun _ => True) (execUnder M i s) :=
  execUnder_endsIn (same_closed native ps s) (fun c mem => same_keptBy native (untouched c mem)) fun p _ => p.kept_rfl s

/-- The end of an instruction under NATIVE changes no piece but the mode, where it enters firmware. -/
theorem Piece.Kept.of_next (native : M.personality = nativePersonality) {r : Result NativeState Unit} {t : State}
    (notMode : p ∉ [Piece.palMode]) (ends : r.Ends (p.Kept s) fun _ => True) (ended : finish M r = .next t) : p.Kept s t := by
  rcases finish_cases native r with ⟨_, u, rfl, -, e⟩ | ⟨_, u, rfl, -, e⟩ | ⟨k, va, m, u, rfl, e⟩ | ⟨f, -, e⟩
  · cases e.symm.trans ended
    exact ends
  · cases e.symm.trans ended
    refine Piece.Kept.enterFirmware ?_ notMode _ _
    cases p with | _ => exact ends
  · cases e.symm.trans ended
    refine Piece.Kept.enterFirmware ?_ notMode _ _
    cases p with | _ => exact ends
  · cases e.symm.trans ended

/-- A piece an instruction changes, the mode apart, is touched by something it does beside what all instructions may do. -/
theorem touched_of_changed (native : M.personality = nativePersonality) {i : Instr} {t : State} (notMode : p ∉ [Piece.palMode])
    (ended : execUnder M i s = .next t) (changed : ¬ p.Kept s t) : ∃ c ∈ specials i, p ∈ c.touches M := by
  by_contra untouched
  push Not at untouched
  obtain ⟨r, shape, ends⟩ := execUnder_same (s := s) (ps := [p]) native fun c mem q only => by
    rw [List.mem_singleton.mp only]
    exact untouched c mem
  refine changed (Piece.Kept.of_next native notMode ?_ (shape.symm.trans ended))
  cases r with
  | ok a u => exact ends p (.head _)
  | raised k va m u => exact ends p (.head _)
  | stopped f => trivial

/-! ### Which instructions do what only some do -/

theorem hwMtpr_of_register {i : Instr} {index : BitVec 16} (mem : .register index ∈ specials i) :
    ∃ rb, i = .hwMtpr rb index := by
  cases i with
  | hwMtpr rb index' =>
    cases List.mem_singleton.mp mem
    exact ⟨rb, rfl⟩
  | hwLd _ _ q | hwSt _ _ q => cases locking : q.lock <;> simp [specials, locking] at mem
  | _ => simp [specials] at mem

theorem hwRei_of_returning {i : Instr} (mem : .returning ∈ specials i) : ∃ rs mbz, i = .hwRei rs mbz := by
  cases i with
  | hwRei rs mbz => exact ⟨rs, mbz, rfl⟩
  | hwLd _ _ q | hwSt _ _ q => cases locking : q.lock <;> simp [specials, locking] at mem
  | _ => simp [specials] at mem

theorem flag_of_intrFlag {i : Instr} (mem : .intrFlag ∈ specials i) : ∃ ra, i = .rs ra ∨ i = .rc ra := by
  cases i with
  | rs ra | rc ra => exact ⟨ra, by simp⟩
  | hwLd _ _ q | hwSt _ _ q => cases locking : q.lock <;> simp [specials, locking] at mem
  | _ => simp [specials] at mem

theorem operate_of_fpcr {i : Instr} (mem : .fpcr ∈ specials i) : ∃ fa fb fc fn,
    i = .itfp fa fb fc fn ∨ i = .fltv fa fb fc fn ∨ i = .flti fa fb fc fn ∨ i = .fltl fa fb fc fn := by
  cases i with
  | itfp fa fb fc fn | fltv fa fb fc fn | flti fa fb fc fn | fltl fa fb fc fn => exact ⟨fa, fb, fc, fn, by simp⟩
  | hwLd _ _ q | hwSt _ _ q => cases locking : q.lock <;> simp [specials, locking] at mem
  | _ => simp [specials] at mem

theorem locking_of_lockFlag {i : Instr} (mem : .lockFlag ∈ specials i) :
    (∃ ra rb disp, i = .ldlL ra rb disp ∨ i = .ldqL ra rb disp ∨ i = .stlC ra rb disp ∨ i = .stqC ra rb disp) ∨
    ∃ ra rb q disp, (i = .hwLd ra rb q disp ∨ i = .hwSt ra rb q disp) ∧ q.lock = true := by
  cases i with
  | ldlL ra rb disp | ldqL ra rb disp | stlC ra rb disp | stqC ra rb disp => exact .inl ⟨ra, rb, disp, by simp⟩
  | hwLd ra rb q disp | hwSt ra rb q disp =>
    refine .inr ⟨ra, rb, q, disp, by simp, ?_⟩
    by_contra unlocked
    simp [specials, unlocked] at mem
  | _ => simp [specials] at mem

theorem transfer_of_history {i : Instr} (mem : .history ∈ specials i) :
    (∃ ra disp, i = .br ra disp ∨ i = .bsr ra disp ∨ i = .blbc ra disp ∨ i = .beq ra disp ∨ i = .blt ra disp ∨
      i = .ble ra disp ∨ i = .blbs ra disp ∨ i = .bne ra disp ∨ i = .bge ra disp ∨ i = .bgt ra disp ∨
      i = .fbeq ra disp ∨ i = .fblt ra disp ∨ i = .fble ra disp ∨ i = .fbne ra disp ∨ i = .fbge ra disp ∨
      i = .fbgt ra disp) ∨
    ∃ ra rb, i = .jmp ra rb ∨ i = .jsr ra rb ∨ i = .ret ra rb ∨ i = .jsrCoroutine ra rb := by
  cases i with
  | br ra disp | bsr ra disp | blbc ra disp | beq ra disp | blt ra disp | ble ra disp | blbs ra disp | bne ra disp
  | bge ra disp | bgt ra disp | fbeq ra disp | fblt ra disp | fble ra disp | fbne ra disp | fbge ra disp | fbgt ra disp =>
    exact .inl ⟨ra, disp, by simp⟩
  | jmp ra rb | jsr ra rb | ret ra rb | jsrCoroutine ra rb => exact .inr ⟨ra, rb, by simp⟩
  | hwLd _ _ q | hwSt _ _ q => cases locking : q.lock <;> simp [specials, locking] at mem
  | _ => simp [specials] at mem

theorem store_of_memory {i : Instr} (mem : .memory ∈ specials i) :
    (∃ ra rb disp, i = .stb ra rb disp ∨ i = .stw ra rb disp ∨ i = .stl ra rb disp ∨ i = .stq ra rb disp ∨
      i = .stqU ra rb disp ∨ i = .stlC ra rb disp ∨ i = .stqC ra rb disp ∨ i = .stf ra rb disp ∨ i = .stg ra rb disp ∨
      i = .sts ra rb disp ∨ i = .stt ra rb disp) ∨
    ∃ ra rb q disp, i = .hwSt ra rb q disp := by
  cases i with
  | stb ra rb disp | stw ra rb disp | stl ra rb disp | stq ra rb disp | stqU ra rb disp | stlC ra rb disp | stqC ra rb disp
  | stf ra rb disp | stg ra rb disp | sts ra rb disp | stt ra rb disp => exact .inl ⟨ra, rb, disp, by simp⟩
  | hwSt ra rb q disp => exact .inr ⟨ra, rb, q, disp, rfl⟩
  | hwLd _ _ q => cases locking : q.lock <;> simp [specials, locking] at mem
  | _ => simp [specials] at mem

/-! ### Which instruction touches which piece -/

/-- The write of an internal register touches what the register that its index names does. -/
theorem register_touches {index : BitVec 16} (touched : p ∈ (Special.register index).touches M) :
    ∃ r : Ipr, index.toNat = r.number ∧ p ∈ r.touches := by
  cases named : Ipr.ofIndex M index with
  | none => simp [Special.touches, named] at touched
  | some r => exact ⟨r, (Ipr.ofIndex_eq_some named).1, by simpa [Special.touches, named] using touched⟩

/-- Four pieces are in no internal register. -/
theorem not_register_touches (other : p ∈ [Piece.intrFlag, .fpcr, .history, .memory]) (index : BitVec 16) :
    p ∉ (Special.register index).touches M := fun touched => by
  obtain ⟨r, -, touched⟩ := register_touches touched
  have unlisted : ∀ q ∈ [Piece.intrFlag, .fpcr, .history, .memory], q ∉ r.touches := by
    cases r with | _ => simp [Ipr.touches]
  exact unlisted p other touched

/-- The pieces that only the write of an internal register touches. -/
def firmwarePieces : List Piece := [.cm, .ipl, .control, .palBase, .altMode, .palTemp, .tags, .tables]

theorem register_of_firmwarePiece {c : Special} (firmware : p ∈ firmwarePieces) (touched : p ∈ c.touches M) :
    ∃ index, c = .register index := by
  cases c with
  | register index => exact ⟨index, rfl⟩
  | _ =>
    have disjoint := touched
    fin_cases firmware <;> simp [Special.touches] at disjoint

/-- A firmware piece that an instruction changes is changed by `HW_MTPR` to a register that touches it. -/
theorem hwMtpr_of_changed (native : M.personality = nativePersonality) {i : Instr} {t : State} (firmware : p ∈ firmwarePieces)
    (ended : execUnder M i s = .next t) (changed : ¬ p.Kept s t) :
    ∃ rb index, i = .hwMtpr rb index ∧ ∃ r : Ipr, index.toNat = r.number ∧ p ∈ r.touches := by
  have notMode : p ∉ [Piece.palMode] := fun mode => by
    rw [List.mem_singleton.mp mode] at firmware
    revert firmware
    decide
  obtain ⟨c, mem, touched⟩ := touched_of_changed native notMode ended changed
  obtain ⟨index, rfl⟩ := register_of_firmwarePiece firmware touched
  obtain ⟨rb, rfl⟩ := hwMtpr_of_register mem
  exact ⟨rb, index, rfl, register_touches touched⟩

/-- The same of a piece that one register touches. -/
theorem hwMtpr_index_of_changed (native : M.personality = nativePersonality) {i : Instr} {t : State} {index : BitVec 16}
    (firmware : p ∈ firmwarePieces) (only : ∀ r : Ipr, p ∈ r.touches → r.number = index.toNat)
    (ended : execUnder M i s = .next t) (changed : ¬ p.Kept s t) : ∃ rb, i = .hwMtpr rb index := by
  obtain ⟨rb, index', rfl, r, number, touched⟩ := hwMtpr_of_changed native firmware ended changed
  rw [BitVec.eq_of_toNat_eq (number.trans (only r touched))]
  exact ⟨rb, rfl⟩

/-! ### Outside kernel and firmware mode (R380, R461) -/

theorem callPal_of_call {i : Instr} (mem : .call ∈ specials i) : ∃ mbz cls n, i = .callPal mbz cls n := by
  cases i with
  | callPal mbz cls n => exact ⟨mbz, cls, n, rfl⟩
  | hwLd _ _ q | hwSt _ _ q => cases locking : q.lock <;> simp [specials, locking] at mem
  | _ => simp [specials] at mem

theorem hwMtpr_denied (rb : Reg) (index : BitVec 16) (denied : ¬ (s.palMode = true ∨ s.cm = 0)) :
    execUnder M (.hwMtpr rb index) s = finish M (raise .reservedInstruction 0 s) :=
  congrArg (finish M) (requirePrivileged_denied _ denied)

theorem hwRei_denied (rs : Bool) (mbz : BitVec 15) (denied : ¬ (s.palMode = true ∨ s.cm = 0)) :
    execUnder M (.hwRei rs mbz) s = finish M (raise .reservedInstruction 0 s) :=
  congrArg (finish M) (requirePrivileged_denied _ denied)

/-- The pieces that user mode can change only by an entry into firmware. -/
def confinedPieces : List Piece := .palMode :: firmwarePieces

/-- What an instruction other than `CALL_PAL` ends in, where the privileged opcodes are denied. -/
theorem denied_same (native : M.personality = nativePersonality) (denied : ¬ (s.palMode = true ∨ s.cm = 0)) {i : Instr}
    (notCall : ∀ mbz cls n, i ≠ .callPal mbz cls n) :
    EndsIn M (State.Same confinedPieces s) (fun _ => True) (execUnder M i s) := by
  have raised : (raise .reservedInstruction 0 s : Result NativeState Unit).Ends (State.Same confinedPieces s) fun _ => True :=
    fun p _ => p.kept_rfl s
  by_cases writes : ∃ rb index, i = .hwMtpr rb index
  · obtain ⟨rb, index, rfl⟩ := writes
    exact ⟨_, hwMtpr_denied rb index denied, raised⟩
  · by_cases returns : ∃ rs mbz, i = .hwRei rs mbz
    · obtain ⟨rs, mbz, rfl⟩ := returns
      exact ⟨_, hwRei_denied rs mbz denied, raised⟩
    · refine execUnder_same native fun c mem => ?_
      cases c with
      | memory => show ∀ p ∈ confinedPieces, p ∉ [Piece.memory]; decide
      | lockFlag => show ∀ p ∈ confinedPieces, p ∉ [Piece.lockFlag]; decide
      | intrFlag => show ∀ p ∈ confinedPieces, p ∉ [Piece.intrFlag]; decide
      | fpcr => show ∀ p ∈ confinedPieces, p ∉ [Piece.fpcr]; decide
      | history => show ∀ p ∈ confinedPieces, p ∉ [Piece.history]; decide
      | returning => exact absurd (hwRei_of_returning mem) returns
      | register index =>
        obtain ⟨rb, rfl⟩ := hwMtpr_of_register mem
        exact absurd ⟨rb, index, rfl⟩ writes
      | call =>
        obtain ⟨mbz, cls, n, rfl⟩ := callPal_of_call mem
        exact absurd rfl (notCall mbz cls n)

theorem firmwareStateKept_of_same (same : s.Same firmwarePieces t) : FirmwareStateKept s t where
  cm := same .cm (by decide)
  ipl := same .ipl (by decide)
  fpen := (same .control (by decide)).1
  palBase := same .palBase (by decide)
  sde := (same .control (by decide)).2.1
  superpages := (same .control (by decide)).2.2
  altMode := same .altMode (by decide)
  palTemp := same .palTemp (by decide)
  tags := same .tags (by decide)
  itlb := same .tables (by decide) .instruction
  dtlb := same .tables (by decide) .data

theorem vector_mem_entryOffsets (k : FaultKind) : k.vector ∈ entryOffsets := by
  refine List.mem_append_left _ (List.mem_append_left _ ?_)
  cases k with
  | reservedInstruction | reservedOperand | misalignedOperand | floatingDisabled => decide
  | tlbMiss acc | faultOnReference acc | accessViolation acc | translationNotValid acc | badVirtualAddress acc =>
    cases acc <;> decide

theorem trapOffset_mem_entryOffsets : 0x0500 ∈ entryOffsets :=
  List.mem_append_left _ (List.mem_append_left _ (by decide))

/-- 64 bytes a function (R443). -/
theorem callPalOffset_eq (code : BitVec 8) : callPalOffset code =
    BitVec.ofNat 15 ((if code.getLsbD 7 then 0x4000 else 0x2000) + 64 * (code.extractLsb' 0 7).toNat) := by
  have function : (code.extractLsb' 0 7).toNat < 128 := (code.extractLsb' 0 7).isLt
  have offset : (code.extractLsb' 0 7).setWidth 15 <<< 6 = BitVec.ofNat 15 (64 * (code.extractLsb' 0 7).toNat) := by
    apply BitVec.eq_of_toNat_eq
    simp [BitVec.toNat_shiftLeft, Nat.shiftLeft_eq]
    omega
  rw [callPalOffset, offset, BitVec.ofNat_add]
  split <;> rfl

theorem callPalOffset_mem_entryOffsets (code : BitVec 8) : callPalOffset code ∈ entryOffsets := by
  have function : (code.extractLsb' 0 7).toNat < 128 := (code.extractLsb' 0 7).isLt
  rw [callPalOffset_eq]
  split
  · exact List.mem_append_right _ (List.mem_map.mpr ⟨_, List.mem_range.mpr function, rfl⟩)
  · exact List.mem_append_left _ (List.mem_append_right _ (List.mem_map.mpr ⟨_, List.mem_range.mpr function, rfl⟩))

/-- Where an entry into firmware from a state `s` leads (R420): to an entry point, with the mode it came from recorded. -/
def EntersFrom (s t : State) : Prop :=
  ∃ offset ∈ entryOffsets, t.pc = alignPc (s.palBase + offset.setWidth 64) ∧ t.excAddr.getLsbD 0 = s.palMode

theorem entersFrom_enterFirmware {u : State} (mode : u.palMode = s.palMode) (base : u.palBase = s.palBase)
    {offset : BitVec 15} (listed : offset ∈ entryOffsets) (resume : Word) : EntersFrom s (u.enterFirmware offset resume) :=
  ⟨offset, listed, by rw [enterFirmware_pc, base], by rw [enterFirmware_excAddr, packExcAddr_bit0, mode]⟩

/-- How such an instruction ends: it stays in its mode, or it enters firmware. -/
theorem same_or_enters (native : M.personality = nativePersonality) {r : Result NativeState Unit} {t : State}
    (ends : r.Ends (State.Same confinedPieces s) fun _ => True) (ended : finish M r = .next t) :
    s.Same firmwarePieces t ∧ (t.palMode = s.palMode ∨ EntersFrom s t) := by
  have kept (p : Piece) (mem : p ∈ firmwarePieces) : p.Kept s t := by
    have notMode : ∀ q ∈ firmwarePieces, q ∉ [Piece.palMode] := by decide
    refine Piece.Kept.of_next native (notMode p mem) ?_ ended
    cases r with
    | ok a u => exact ends p (.tail _ mem)
    | raised k va m u => exact ends p (.tail _ mem)
    | stopped f => trivial
  refine ⟨kept, ?_⟩
  rcases finish_cases native r with ⟨_, u, rfl, -, e⟩ | ⟨_, u, rfl, -, e⟩ | ⟨k, va, m, u, rfl, e⟩ | ⟨f, -, e⟩
  · cases e.symm.trans ended
    exact .inl (ends .palMode (by decide))
  · cases e.symm.trans ended
    have mode : u.palMode = s.palMode := ends .palMode (by decide)
    have base : u.palBase = s.palBase := ends .palBase (by decide)
    exact .inr (entersFrom_enterFirmware
      (u := { u with trapSumm := 0, trapMask := 0, ps := u.ps.latchTrap u.trapSumm u.trapMask }) mode base
      trapOffset_mem_entryOffsets u.pc)
  · cases e.symm.trans ended
    have mode : u.palMode = s.palMode := ends .palMode (by decide)
    have base : u.palBase = s.palBase := ends .palBase (by decide)
    exact .inr (entersFrom_enterFirmware (u := { u with ps := u.ps.latchFault k va m }) mode base
      (vector_mem_entryOffsets k) u.pc)
  · cases e.symm.trans ended

/-- `CALL_PAL` raises, or enters firmware (R381). -/
theorem callPal_same_or_enters (native : M.personality = nativePersonality) {mbz : BitVec 18} {cls : Bool} {n : BitVec 7}
    {t : State} (clear : s.trapSumm = 0) (ended : callPal M mbz cls n s = .next t) :
    s.Same firmwarePieces t ∧ (t.palMode = s.palMode ∨ EntersFrom s t) := by
  have raised : (raise .reservedInstruction 0 s : Result NativeState Unit).Ends (State.Same confinedPieces s) fun _ => True :=
    fun p _ => p.kept_rfl s
  unfold callPal at ended
  split_ifs at ended
  · exact same_or_enters native raised ended
  · exact same_or_enters native raised ended
  · have quiet : (nativeCall (BitVec.ofBool cls ++ n) s).trapSumm = 0 := (State.enterFirmware_trapSumm s _ _).trans clear
    rw [endPrivilegedOpcode_native native, finish_ok quiet] at ended
    cases ended
    have notMode : ∀ q ∈ firmwarePieces, q ∉ [Piece.palMode] := by decide
    exact ⟨fun p mem => (p.kept_rfl s).enterFirmware (notMode p mem) _ _,
      .inr (entersFrom_enterFirmware rfl rfl (callPalOffset_mem_entryOffsets _) _)⟩

end Pieces

/-! ### The statements -/

/-- Settles O57, by the pieces that an instruction keeps where the privileged opcodes are denied. -/
theorem userModeIsConfined : Obligations.UserModeIsConfined := by
  intro i s t outside user clear _ ended
  have denied : ¬ (s.palMode = true ∨ s.cm = 0) := by
    rintro (firmware | kernel)
    · rw [outside] at firmware
      cases firmware
    · exact user kernel
  rw [exec_eq_execUnder] at ended
  have confined : s.Same firmwarePieces t ∧ (t.palMode = s.palMode ∨ EntersFrom s t) := by
    by_cases calls : ∃ mbz cls n, i = .callPal mbz cls n
    · obtain ⟨mbz, cls, n, rfl⟩ := calls
      exact callPal_same_or_enters rfl clear ended
    · obtain ⟨r, shape, ends⟩ := denied_same (M := nativeSetup) rfl denied fun mbz cls n e => calls ⟨mbz, cls, n, e⟩
      exact same_or_enters rfl ends (shape.symm.trans ended)
  obtain ⟨same, mode⟩ := confined
  refine ⟨firmwareStateKept_of_same same, fun firmware => ?_⟩
  rcases mode with stays | ⟨offset, listed, pc, recorded⟩
  · rw [stays, outside] at firmware
    cases firmware
  · exact ⟨offset, listed, pc, recorded.trans outside⟩

/-- Settles O58: each piece by what touches it, and that by the instructions that do it. -/
theorem whoChangesWhat : Obligations.WhoChangesWhat := by
  intro M i s t native clear ended
  have touched {p : Piece} (notMode : p ∉ [Piece.palMode]) (changed : ¬ p.Kept s t) :=
    touched_of_changed native notMode ended changed
  refine ⟨fun h => ?cm, fun h => ?ipl, fun h => ?control, fun h => ?palBase, fun h => ?altMode, fun h => ?intrFlag,
    fun h => ?fpcr, fun h => ?palTemp, fun h => ?lockFlag, fun h => ?history, fun h => ?memory⟩
  case cm =>
    refine hwMtpr_index_of_changed (p := .cm) native (by decide) (fun r mem => ?_) ended h
    cases r with
    | cm => rfl
    | _ => simp [Ipr.touches] at mem
  case ipl =>
    refine hwMtpr_index_of_changed (p := .ipl) native (by decide) (fun r mem => ?_) ended h
    cases r with
    | ipl => rfl
    | _ => simp [Ipr.touches] at mem
  case control =>
    have changed : ¬ Piece.control.Kept s t := by
      rintro ⟨fpen, sde, ispe, dspe⟩
      simp [fpen, sde, ispe, dspe] at h
    refine hwMtpr_index_of_changed (p := .control) native (by decide) (fun r mem => ?_) ended changed
    cases r with
    | fwCtl => rfl
    | _ => simp [Ipr.touches] at mem
  case palBase =>
    refine hwMtpr_index_of_changed (p := .palBase) native (by decide) (fun r mem => ?_) ended h
    cases r with
    | palBase => rfl
    | _ => simp [Ipr.touches] at mem
  case altMode =>
    refine hwMtpr_index_of_changed (p := .altMode) native (by decide) (fun r mem => ?_) ended h
    cases r with
    | altMode => rfl
    | _ => simp [Ipr.touches] at mem
  case palTemp =>
    obtain ⟨rb, index, rfl, r, number, touched⟩ := hwMtpr_of_changed (p := .palTemp) native (by decide) ended h
    cases r with
    | palTemp k => exact ⟨rb, index, rfl, by rw [number, Ipr.number]; omega, by rw [number, Ipr.number]; omega⟩
    | _ => simp [Ipr.touches] at touched
  case intrFlag =>
    obtain ⟨c, mem, touched⟩ := touched (p := .intrFlag) (by decide) h
    cases c with
    | intrFlag => exact flag_of_intrFlag mem
    | register index => exact absurd touched (not_register_touches (by decide) index)
    | _ => simp [Special.touches] at touched
  case fpcr =>
    obtain ⟨c, mem, touched⟩ := touched (p := .fpcr) (by decide) h
    cases c with
    | fpcr => exact operate_of_fpcr mem
    | register index => exact absurd touched (not_register_touches (by decide) index)
    | _ => simp [Special.touches] at touched
  case lockFlag =>
    obtain ⟨c, mem, touched⟩ := touched (p := .lockFlag) (by decide) h
    cases c with
    | lockFlag => exact (locking_of_lockFlag mem).imp_right .inl
    | returning => exact .inr (.inr (.inl (hwRei_of_returning mem)))
    | register index =>
      obtain ⟨r, number, touched⟩ := register_touches touched
      obtain ⟨rb, rfl⟩ := hwMtpr_of_register mem
      cases r with
      | lockFlag => exact .inr (.inr (.inr ⟨rb, congrArg (Instr.hwMtpr rb) (BitVec.eq_of_toNat_eq number)⟩))
      | _ => simp [Ipr.touches] at touched
    | _ => simp [Special.touches] at touched
  case history =>
    have changed : ¬ Piece.history.Kept s t := by
      rintro ⟨pointer, queue⟩
      simp [pointer, queue] at h
    obtain ⟨c, mem, touched⟩ := touched (p := .history) (by decide) changed
    cases c with
    | history => exact (transfer_of_history mem).imp_right .inl
    | returning => exact .inr (.inr (hwRei_of_returning mem))
    | register index => exact absurd touched (not_register_touches (by decide) index)
    | _ => simp [Special.touches] at touched
  case memory =>
    obtain ⟨c, mem, touched⟩ := touched (p := .memory) (by decide) h
    cases c with
    | memory => exact store_of_memory mem
    | register index => exact absurd touched (not_register_touches (by decide) index)
    | _ => simp [Special.touches] at touched

end Sys2Proof.Machine

/-! ## Proof of the statement about every personality (60_exceptions R440 to R446, 47_firmware_opcodes R381, R391) -/

namespace Sys2Proof.Machine

section Contract

variable {π α : Type} {M : Setup π} {s t : State π}

/-! ### The frame of a callback (R441) -/

/-- The fields that no call and no change R441 lists writes. -/
def State.outsideContract (s : State π) :=
  (s.pcq, s.pcqP, s.trapSumm, s.trapMask, s.fregs, s.fpcr, s.intrFlag, s.fpen, s.palBase, s.sde, s.ispe, s.dspe, s.altMode,
    s.itbTag, s.dtbTag, s.irq, s.irqNext, s.report)

/-- What a callback leaves as it was, or keeps in form. -/
structure CallbackFrame (s t : State π) : Prop where
  outside : t.outsideContract = s.outsideContract
  pc : s.pc.extractLsb' 0 2 = 0 → t.pc.extractLsb' 0 2 = 0
  excAddr : s.excAddr.getLsbD 1 = false → t.excAddr.getLsbD 1 = false
  memory : Memory.wf s.mem = true → Memory.wf t.mem = true

theorem callbackFrame_rfl (s : State π) : CallbackFrame s s := ⟨rfl, id, id, id⟩

theorem CallbackFrame.setTlb (frame : CallbackFrame s t) (side : Side) (u : Tlb) : CallbackFrame s (t.setTlb side u) := by
  cases side with
  | instruction => exact { frame with }
  | data => exact { frame with }

theorem CallbackFrame.of_tableFrame (frame : CallbackFrame s t) {side : Side} {u : State π} (tables : TableFrame side t u) :
    CallbackFrame s u := by
  obtain ⟨-, -, whole⟩ := tables
  rw [whole]
  exact { frame with }

/-- The changes R441 lists. -/
theorem CallbackFrame.apply (u : CallbackUpdate π) (t : State π) (frame : CallbackFrame s t) :
    CallbackFrame s (u.apply M t) := by
  cases u with
  | pc v => exact { frame with pc := fun _ => alignPc_low v }
  | excAddr v => exact { frame with excAddr := fun _ => packExcAddr_bit1 v _ }
  | cm | ipl | palMode | lockFlag | privateState => exact { frame with }
  | writeInt r v =>
    show CallbackFrame s (t.writeInt r v)
    rw [writeInt_eq]
    exact { frame with }
  | exchange =>
    show CallbackFrame s t.exchange
    rw [exchange_eq]
    exact { frame with }
  | setAsn side a => exact frame.setTlb side _
  | invalidateSingle side va => exact frame.setTlb side _
  | invalidateAll side includeGlobal => exact frame.setTlb side _
  | enterFirmware offset resume =>
    have pc : (t.enterFirmware offset resume).pc.extractLsb' 0 2 = 0 := by rw [enterFirmware_pc, alignPc_low]
    have excAddr : (t.enterFirmware offset resume).excAddr.getLsbD 1 = false := by
      rw [enterFirmware_excAddr, packExcAddr_bit1]
    show CallbackFrame s (t.enterFirmware offset resume)
    rw [enterFirmware_frame]
    exact { frame with pc := fun _ => pc, excAddr := fun _ => excAddr }

/-- The stops of a callback's own calls (R77, R114). -/
def Fault.InCall (f : Fault) : Prop := f = .stopNxm ∨ f = .stopEngine

/-- A translation changes what it may, and stops only in a call of its walker or in the installation (R100). -/
theorem translate_ends_tableFrame (va : Word) (acc : Access) (m : Mode) :
    (translate M va acc m s).Ends (TableFrame acc.side s) Fault.InCall := by
  obtain ⟨found, raised, -, stops, -⟩ := missPolicyInstallsOneEntry π M va acc m s
  cases ended : translate M va acc m s with
  | ok pa t => exact (found t pa ended).1
  | raised k va' m' t => exact (raised k va' m' t ended).2.2.1
  | stopped f => exact (stops f ended).2

theorem callbackFrame_accessing (M : Setup π) (s : State π) : Accessing M (CallbackFrame s) Fault.InCall where
  access _ _ _ frame := { frame with }
  translate {t} va acc m frame := by
    have ends := translate_ends_tableFrame (M := M) (s := t) va acc m
    generalize translate M va acc m t = r at ends ⊢
    cases r with
    | ok pa u => exact frame.of_tableFrame ends
    | raised k va m u => exact frame.of_tableFrame ends
    | stopped f => exact ends
  missed := .inl rfl

theorem CallbackFrame.tlbLoad (frame : CallbackFrame s t) (side : Side) (vpn : Vpn) (p : Word) :
    (tlbLoad M side vpn p t).Ends (CallbackFrame s) Fault.InCall := by
  rcases tlbLoad_cases M side vpn p t with ⟨slot, nlu, loaded, -⟩ | ⟨stopped, -⟩
  · rw [loaded]
    exact frame.setTlb side _
  · rw [stopped]
    exact .inr rfl

theorem callbackFrame_run (M : Setup π) (p : Callback π α) (s : State π) :
    (p.run M s).Ends (CallbackFrame s) Fault.InCall :=
  run_ends CallbackFrame.apply
    (perform_ends (callbackFrame_accessing M s)
      (fun _ pa bytes frame => { frame with memory := fun canonical => wf_writeBytes (frame.memory canonical) pa bytes })
      fun side _ p _ frame => frame.tlbLoad side _ p)
    p (callbackFrame_rfl s)

/-! ### Calls that miss or fault (R77, R441) -/

theorem memRead_miss {pa : PhysAddr} {w : Width} (outside : M.memSize ≤ pa.toNat) (miss : (askIo M (.read pa w) s).1 = .miss) :
    memRead M pa w s = .stopped .stopNxm := by
  rw [memRead_io (Nat.not_lt.mpr outside)]
  generalize askIo M (.read pa w) s = asked at miss ⊢
  obtain ⟨answer, t⟩ := asked
  cases miss
  rfl

theorem memWrite_miss {pa : PhysAddr} {w : Width} {v : Word} (outside : M.memSize ≤ pa.toNat)
    (miss : (askIo M (.write pa w (w.trunc v)) s).1 = .miss) : memWrite M pa w v s = .stopped .stopNxm := by
  rw [memWrite_io (Nat.not_lt.mpr outside)]
  generalize askIo M (.write pa w (w.trunc v)) s = asked at miss ⊢
  obtain ⟨answer, t⟩ := asked
  cases miss
  rfl

theorem run_call_stopped {c : CallbackCall} {next : CallAnswer → Callback π α} {f : Fault}
    (stops : c.perform M s = .stopped f) : (Callback.call c next).run M s = .stopped f := by
  rw [run_call, stops, resume_stopped]

theorem run_call_raised {c : CallbackCall} {next : CallAnswer → Callback π α} {k : FaultKind} {va : Word} {m : Mode}
    (raises : c.perform M s = .raised k va m t) : (Callback.call c next).run M s = (next (.fault k va m)).run M t := by
  rw [run_call, raises, resume_raised]

end Contract

section CallPal

variable {π : Type} {M : Setup π} {s : State π}

/-! ### The engine's part of `CALL_PAL` (R381) -/

theorem privileged_of {s : State π} (legal : s.palMode = true ∨ s.cm = 0) : s.privileged = true := by
  simpa [State.privileged] using legal

/-- Past its two tests a `CALL_PAL` is the personality's callback and the engine's part of its answer. -/
theorem callPal_of_legal {cls : Bool} (n : BitVec 7) (legal : cls = true ∨ s.palMode = true ∨ s.cm = 0) :
    callPal M 0 cls n s =
      endPrivilegedOpcode M s ((M.personality.executePrivilegedOpcode (BitVec.ofBool cls ++ n) s).run M s) := by
  have allowed : ¬ (!cls && !s.privileged) = true := by
    rcases legal with rfl | legal
    · simp
    · simp [privileged_of legal]
  unfold callPal
  rw [if_neg (not_not.mpr rfl), if_neg allowed]

/-- The entry of a function of a class (R381, R443). -/
theorem callPalOffset_append (cls : Bool) (n : BitVec 7) :
    callPalOffset (BitVec.ofBool cls ++ n) = BitVec.ofNat 15 ((if cls then 0x4000 else 0x2000) + 64 * n.toNat) := by
  have class_bit : (BitVec.ofBool cls ++ n).getLsbD 7 = cls := by
    rw [BitVec.getLsbD_append]
    simp
  have function : (BitVec.ofBool cls ++ n).extractLsb' 0 7 = n := by
    rw [BitVec.extractLsb'_append_eq_right]
  rw [callPalOffset_eq, class_bit, function]

end CallPal

/-! ### The statements -/

/-- Settles O42: the two tests, NATIVE's entry, and each answer of a callback by the engine's part. -/
theorem callPalEntersFirmware : Obligations.CallPalEntersFirmware := by
  refine ⟨hasOpcode_of_major fun w => rfl, fun mbz cls n s => ⟨fun set => callPal_mbz_reserved cls n s set,
    fun mode user => callPal_denied_reserved mbz n mode user, fun legal clear => ?native⟩, ?answers⟩
  case native =>
    have quiet : (nativeCall (BitVec.ofBool cls ++ n) s).trapSumm = 0 := (State.enterFirmware_trapSumm s _ _).trans clear
    have entered : callPal nativeSetup 0 cls n s = .next (nativeCall (BitVec.ofBool cls ++ n) s) := by
      rw [callPal_of_legal n legal, endPrivilegedOpcode_native rfl, finish_ok quiet]
    rw [nativeCall, callPalOffset_append] at entered
    exact entered
  case answers =>
    intro π M cls n s legal call
    have engine : callPal M 0 cls n s = endPrivilegedOpcode M s call := callPal_of_legal n legal
    refine ⟨fun s' answered clear => ?_, fun s' answered clear => ?_, fun k va s' answered => ?_, fun code s' answered => ?_,
      fun f stopped => ?_⟩
    · rw [engine, answered]
      exact finish_ok (u := ()) clear
    · rw [engine, answered]
      exact finish_ok (u := ()) clear
    · refine ⟨s.cm, s'.ioLog, s'.ioAnswers, s'.draws, fun _ => rfl, ?_⟩
      rw [engine, answered]
      rfl
    · rw [engine, answered]
      rfl
    · rw [engine, stopped]
      rfl

/-- Settles O59: the frame by induction over the run, the rest by the equations of a call, of NATIVE and of the map. -/
theorem personalityContract : Obligations.PersonalityContract := by
  refine ⟨fun π α M callback s => ⟨fun a t answered => ?_, fun f stopped => ?_⟩,
    fun π α M pa w v next s outside => ⟨fun miss => ?_, fun miss => ?_⟩,
    fun π α M va w v m next s t k fva fm => ⟨fun raised => ?_, fun raised => ?_⟩,
    fun M s native => ⟨fun level => ?_, fun k va m => ?_, ?_⟩,
    fun π M cls n k va s s' legal answered => ?_, fun π M => ⟨readsMap M, writesMap M⟩⟩
  · have ends := callbackFrame_run M callback s
    rw [answered] at ends
    obtain ⟨outside, pc, excAddr, memory⟩ := ends
    simp only [State.outsideContract, Prod.mk.injEq] at outside
    simp only [outside, true_and]
    exact ⟨pc, excAddr, memory⟩
  · have ends := callbackFrame_run M callback s
    rw [stopped] at ends
    exact ends
  · exact run_call_stopped (memRead_miss outside miss)
  · exact run_call_stopped (by rw [CallbackCall.perform, memWrite_miss outside miss, andThen_stopped])
  · exact run_call_raised raised
  · exact run_call_raised (by rw [CallbackCall.perform, raised, andThen_raised])
  · rw [takeInterrupt, native]
    rfl
  · rw [dispatchFault, native]
    rfl
  · rw [dispatchTrap, native]
    rfl
  · rw [callPal_of_legal n legal, answered]
    rfl

end Sys2Proof.Machine

/-! ## Proofs of the statements about the shadow registers (10_state R36, 60_exceptions R420, 47_firmware_opcodes R389) -/

namespace Sys2Proof.Machine

section Shadow

variable {π : Type}

/-! ### The exchange (R36) -/

/-- The shadow set swaps register by register and cell by cell. -/
theorem exchange_swaps (s : State π) : ∀ p ∈ shadowSet,
    s.exchange.readInt p.1 = s.shadow[p.2] ∧ s.exchange.shadow[p.2] = s.readInt p.1 := by
  simp [shadowSet, State.readInt, exchange_regs, exchange_shadow, Vector.getElem_set]

theorem exchange_exchange_regs (s : State π) : s.exchange.exchange.regs = s.regs := by
  rw [exchange_regs, exchange_shadow, exchange_regs]
  ext i hi
  simp only [Vector.getElem_set]
  grind

theorem exchange_exchange_shadow (s : State π) : s.exchange.exchange.shadow = s.shadow := by
  rw [exchange_shadow, exchange_shadow, exchange_regs]
  ext i hi
  simp only [Vector.getElem_set]
  grind

/-- An exchange undoes itself (R36). -/
theorem exchange_exchange (s : State π) : s.exchange.exchange = s := by
  rw [exchange_eq s.exchange, exchange_exchange_regs, exchange_exchange_shadow, State.exchange_shdwActive, Bool.not_not]
  conv_lhs => rw [exchange_eq s]

/-! ### The return to what an entry interrupted (R389) -/

theorem alignPc_packExcAddr (resume : Word) : alignPc (packExcAddr resume false) = alignPc resume := by
  rw [packExcAddr, show boolWord false = 0#64 from rfl, BitVec.or_zero, alignPc, alignPc, BitVec.and_assoc, BitVec.and_self]

/-- A return with the exchange, out of firmware mode. -/
theorem returnFromFirmware_exchanged {s : State π} (active : s.shdwActive = true) (outside : s.excAddr.getLsbD 0 = false) :
    s.returnFromFirmware true =
      { s.exchange with
        pc := alignPc s.excAddr
        palMode := false
        lockFlag := false
        pcq := (s.pushPc s.pc).pcq
        pcqP := (s.pushPc s.pc).pcqP } := by
  rw [returnFromFirmware_eq, if_pos ⟨rfl, active, outside⟩, outside, State.exchange_shdwActive]
  conv_rhs => rw [exchange_eq s]

end Shadow

/-! ### The statements -/

/-- Settles O10. -/
theorem shadowExchangeSwaps : Obligations.ShadowExchangeSwaps := fun s =>
  ⟨exchange_swaps s, exchange_readInt_other s, s.exchange_shdwActive, exchange_eq s, exchange_exchange s⟩

/-- Settles O11: the return exchanges what the entry had exchanged, firmware having kept the cells. -/
theorem entryThenReturnRestores : Obligations.EntryThenReturnRestores := by
  intro s firmware offset resume outside enabled free t keepsAddr keepsCells keepsActive mode clear
  obtain ⟨-, cells, active⟩ := enterFirmware_exchanged offset resume ⟨enabled, free⟩
  have recorded : firmware.excAddr = packExcAddr resume false := by
    rw [keepsAddr, enterFirmware_excAddr, outside]
  have leaves : firmware.excAddr.getLsbD 0 = false := by rw [recorded, packExcAddr_bit0]
  have cell : firmware.shadow = s.exchange.shadow := keepsCells.trans cells
  have inForce : firmware.shdwActive = true := keepsActive.trans active
  refine ⟨_, hwRei_allowed true (.inl mode) clear, ?_⟩
  rw [returnFromFirmware_exchanged inForce leaves]
  refine ⟨?_, rfl, ?_, rfl, firmware.exchange_cm, fun p mem => ?_, exchange_readInt_other firmware,
    memoryKept_of_mem firmware.exchange_mem⟩
  · rw [recorded, alignPc_packExcAddr]
  · rw [State.exchange_shdwActive, inForce]
    rfl
  · obtain ⟨register, stored⟩ := exchange_swaps firmware p mem
    refine ⟨?_, stored⟩
    calc firmware.exchange.readInt p.1
      _ = s.exchange.shadow[p.2] := by rw [register, getElem_congr_coll cell]
      _ = s.readInt p.1 := (exchange_swaps s p mem).2

end Sys2Proof.Machine

/-! ## Proofs of the statements about overflow tests and floating images (41_integer_arith R201, 46_floating_interface section 4) -/

namespace Sys2Proof.Machine

section Overflow

/-! ### The sign-bit tests (R201) -/

theorem addOverflow_bits {i : Nat} (inside : i < 64) (a b r : Word) :
    addOverflow i a b r = (a.getLsbD i == b.getLsbD i && !(r.getLsbD i == a.getLsbD i)) := by
  simp only [addOverflow, BitVec.getLsbD_and, BitVec.getLsbD_not, BitVec.getLsbD_xor, inside, decide_true, Bool.true_and]
  cases a.getLsbD i <;> cases b.getLsbD i <;> cases r.getLsbD i <;> rfl

theorem subOverflow_bits (i : Nat) (a b r : Word) :
    subOverflow i a b r =
      (!a.getLsbD i && b.getLsbD i && r.getLsbD i || a.getLsbD i && !b.getLsbD i && !r.getLsbD i) := by
  simp only [subOverflow, BitVec.getLsbD_and, BitVec.getLsbD_xor]
  cases a.getLsbD i <;> cases b.getLsbD i <;> cases r.getLsbD i <;> rfl

theorem saddOverflow_iff {n : Nat} (x y : BitVec n) :
    x.saddOverflow y = true ↔ x.toInt + y.toInt < -2 ^ (n - 1) ∨ 2 ^ (n - 1) ≤ x.toInt + y.toInt := by
  simp [BitVec.saddOverflow, or_comm]

theorem ssubOverflow_iff {n : Nat} (x y : BitVec n) :
    x.ssubOverflow y = true ↔ x.toInt - y.toInt < -2 ^ (n - 1) ∨ 2 ^ (n - 1) ≤ x.toInt - y.toInt := by
  simp [BitVec.ssubOverflow, or_comm]

theorem addOverflow_quad (a b : Word) : addOverflow 63 a b (a + b) = a.saddOverflow b := by
  simp only [addOverflow_bits (show 63 < 64 by decide), BitVec.saddOverflow_eq, BitVec.msb_eq_getLsbD_last]

theorem subOverflow_quad (a b : Word) : subOverflow 63 a b (a - b) = a.ssubOverflow b := by
  simp only [subOverflow_bits, BitVec.ssubOverflow_eq, BitVec.msb_eq_getLsbD_last]

theorem msb_long (v : Word) : (v.setWidth 32).msb = v.getLsbD 31 := by simp [BitVec.msb_setWidth]

theorem sext_bit31 (v : Word) : (sext 32 v).getLsbD 31 = v.getLsbD 31 := by
  simp [sext, BitVec.getElem_signExtend]

theorem addOverflow_long (a b : Word) :
    addOverflow 31 a b (sext 32 (a + b)) = (a.setWidth 32).saddOverflow (b.setWidth 32) := by
  rw [addOverflow_bits (by decide), sext_bit31, BitVec.saddOverflow_eq, ← BitVec.setWidth_add _ _ (by decide), msb_long, msb_long,
    msb_long]

theorem subOverflow_long (a b : Word) :
    subOverflow 31 a b (sext 32 (a - b)) = (a.setWidth 32).ssubOverflow (b.setWidth 32) := by
  have low : a.setWidth 32 - b.setWidth 32 = (a - b).setWidth 32 := by
    apply BitVec.eq_of_toNat_eq
    simp only [BitVec.toNat_sub, BitVec.toNat_setWidth]
    omega
  rw [subOverflow_bits, sext_bit31, BitVec.ssubOverflow_eq, low, msb_long, msb_long, msb_long]

end Overflow

section Images

/-! ### The store images of the load images (R357, R360 to R367) -/

/-- The exponent mappings keep the top bit and the low seven. -/
theorem mapF_fields (e : BitVec 8) :
    (mapF e).extractLsb' 10 1 = e.extractLsb' 7 1 ∧ (mapF e).extractLsb' 0 7 = e.extractLsb' 0 7 := by
  revert e; decide

theorem mapS_fields (e : BitVec 8) :
    (mapS e).extractLsb' 10 1 = e.extractLsb' 7 1 ∧ (mapS e).extractLsb' 0 7 = e.extractLsb' 0 7 := by
  revert e; decide

/-- Adjacent fields make one. -/
theorem extract_append {n : Nat} (x : BitVec n) (b l a k : Nat) (adjacent : b = a + k) :
    x.extractLsb' b l ++ x.extractLsb' a k = x.extractLsb' a (l + k) :=
  BitVec.extractLsb'_append_extractLsb'_eq_extractLsb' adjacent

theorem packF_expandF (m : Word) : packF (expandF m) = (m.extractLsb' 0 32).setWidth 64 := by
  have exponent : (expandF m).extractLsb' 52 11 = mapF (m.extractLsb' 7 8) := by
    rw [expandF]
    simp (disch := omega) only [extract_high, extract_low, extract_whole, Nat.reduceSub]
  obtain ⟨top, low⟩ := mapF_fields (m.extractLsb' 7 8)
  obtain ⟨sign, -, fraction, rest, -⟩ := expandF_legacySingle m
  have high : (expandF m).extractLsb' 62 2 = m.extractLsb' 14 2 := by
    rw [← extract_append (expandF m) 63 1 62 1 rfl, sign,
      ← extract_extract (expandF m) 52 11 10 1 (by decide), exponent, top, extract_extract _ _ _ _ _ (by decide)]
    exact extract_append m _ _ _ _ rfl
  have middle : (expandF m).extractLsb' 45 14 = m.extractLsb' 0 14 := by
    rw [← extract_append (expandF m) 52 7 45 7 rfl, fraction,
      ← extract_extract (expandF m) 52 11 0 7 (by decide), exponent, low, extract_extract _ _ _ _ _ (by decide)]
    exact extract_append m _ _ _ _ rfl
  rw [packF, high, middle, rest, extract_append m 16 16 14 2 rfl, extract_append m 14 18 0 14 rfl]

theorem packS_expandS (m : Word) : packS (expandS m) = (m.extractLsb' 0 32).setWidth 64 := by
  have exponent : (expandS m).extractLsb' 52 11 = mapS (m.extractLsb' 23 8) := by
    rw [expandS]
    simp (disch := omega) only [extract_high, extract_low, extract_whole, Nat.reduceSub]
  obtain ⟨top, low⟩ := mapS_fields (m.extractLsb' 23 8)
  obtain ⟨sign, -, fraction, -⟩ := expandS_standardSingle m
  have high : (expandS m).extractLsb' 62 2 = m.extractLsb' 30 2 := by
    rw [← extract_append (expandS m) 63 1 62 1 rfl, sign,
      ← extract_extract (expandS m) 52 11 10 1 (by decide), exponent, top, extract_extract _ _ _ _ _ (by decide)]
    exact extract_append m _ _ _ _ rfl
  have middle : (expandS m).extractLsb' 29 30 = m.extractLsb' 0 30 := by
    rw [← extract_append (expandS m) 52 7 29 23 rfl, fraction,
      ← extract_extract (expandS m) 52 11 0 7 (by decide), exponent, low, extract_extract _ _ _ _ _ (by decide)]
    exact extract_append m _ _ _ _ rfl
  rw [packS, high, middle, extract_append m 30 2 0 30 rfl]

theorem reverseWords_reverseWords (q : Word) : reverseWords (reverseWords q) = q := by
  have words := reverseWords_wordsReversed q
  have word3 : (reverseWords q).extractLsb' 0 16 = q.extractLsb' 48 16 := words 0 (by decide)
  have word2 : (reverseWords q).extractLsb' 16 16 = q.extractLsb' 32 16 := words 1 (by decide)
  have word1 : (reverseWords q).extractLsb' 32 16 = q.extractLsb' 16 16 := words 2 (by decide)
  have word0 : (reverseWords q).extractLsb' 48 16 = q.extractLsb' 0 16 := words 3 (by decide)
  conv_lhs => rw [reverseWords, word3, word2, word1, word0]
  rw [extract_append q 48 16 32 16 rfl, extract_append q 32 32 16 16 rfl, extract_append q 16 48 0 16 rfl]
  exact extract_whole q

/-- The low long of an extended long is the long. -/
theorem extract_long (m : BitVec 32) : ((m.setWidth 64).extractLsb' 0 32).setWidth 64 = m.setWidth 64 := by
  rw [BitVec.extractLsb'_setWidth_of_le (by decide), extract_whole]

end Images

/-! ### The statements -/

/-- Settles O18: the tests are those of the signed overflow of a sum and of a difference. -/
theorem signBitOverflowIsExact : Obligations.SignBitOverflowIsExact := fun a b => by
  rw [addOverflow_quad, subOverflow_quad, addOverflow_long, subOverflow_long]
  exact ⟨saddOverflow_iff a b, ssubOverflow_iff a b, saddOverflow_iff _ _, ssubOverflow_iff _ _⟩

/-- Settles O41. -/
theorem floatingImagesInvert : Obligations.FloatingImagesInvert := fun m => by
  rw [packF_expandF, packS_expandS, extract_long]
  exact ⟨rfl, rfl, reverseWords_reverseWords⟩

end Sys2Proof.Machine

/-! ## Proofs of the statements about memory, the step, operands, fault entries and reset (20_memory R81, 30_encoding R130, R140,
60_exceptions R410, 45_misc R336 to R338, 70_reset R480) -/

namespace Sys2Proof.Machine

section Memory

variable {π : Type} {M : Setup π} {s : State π}

/-! ### A byte read after a write (R75, R81) -/

theorem memRead_byte {pa : PhysAddr} (inside : pa.toNat < M.memSize) :
    memRead M pa .byte s = .ok ((Memory.readByte s.mem pa.toNat).setWidth 64) s := by
  rw [memRead_ram inside]
  simp [Width.bytes, Memory.readBytes, leValue]

theorem memRead_byte_of_memWrite_quad (canonical : Memory.wf s.mem = true) {pa : PhysAddr} (v : Word) {k : Nat} (low : k < 8)
    (aligned : 8 ∣ pa.toNat) (inside : pa.toNat < M.memSize) :
    ∃ t, memWrite M pa .quad v s = .ok () t ∧
      memRead M (pa + BitVec.ofNat 64 k) .byte t = .ok ((v.extractLsb' (8 * k) 8).setWidth 64) t := by
  obtain ⟨whole, bounded⟩ := M.valid.memSize
  have addresses : 2 ^ M.paBits ≤ 2 ^ 64 := Nat.pow_le_pow_right (by decide) M.valid.paBits.2
  have fits : pa.toNat + k < M.memSize := by omega
  have address : (pa + BitVec.ofNat 64 k).toNat = pa.toNat + k := by
    rw [BitVec.toNat_add, BitVec.toNat_ofNat, Nat.mod_eq_of_lt (show k < 2 ^ 64 by omega), Nat.mod_eq_of_lt (by omega)]
  refine ⟨_, memWrite_ram inside, ?_⟩
  rw [memRead_byte (by rw [address]; exact fits), address, readByte_store canonical,
    if_pos ⟨by omega, by show pa.toNat + k < pa.toNat + 8; omega⟩, Nat.add_sub_cancel_left]

theorem memWrite_ok_wf (canonical : Memory.wf s.mem = true) {pa : PhysAddr} {w : Width} {v : Word} {u : Unit} {t : State π}
    (written : memWrite M pa w v s = .ok u t) : Memory.wf t.mem = true := by
  rcases memWrite_cases M pa w v s with stored | ⟨log, answers, draws, answered⟩ | stopped
  · cases stored.symm.trans written
    exact wf_writeBytes canonical _ _
  · cases answered.symm.trans written
    exact canonical
  · cases stopped.symm.trans written

end Memory

section Operands

/-- Clearing the low three bits rounds down to a multiple of 8 (R79). -/
theorem quadBase_eq (ea : Word) : quadBase ea = BitVec.ofNat 64 (ea.toNat / 8 * 8) := by
  have shifts : quadBase ea = (ea >>> 3) <<< 3 := by
    ext i hi
    have seven : (7#64).getLsbD i = decide (i < 3) := by
      by_cases low : i < 3
      · interval_cases i <;> rfl
      · have : (7#64).getLsbD i = false := Nat.testBit_lt_two_pow
          ((show 7 < 2 ^ 3 by decide).trans_le (Nat.pow_le_pow_right (by decide) (by omega)))
        simp [this, low]
    rw [← BitVec.getLsbD_eq_getElem, ← BitVec.getLsbD_eq_getElem, quadBase, BitVec.getLsbD_and, BitVec.getLsbD_not, seven]
    by_cases low : i < 3
    · simp [low]
    · simp [low, hi, show 3 + (i - 3) = i by omega]
  apply BitVec.eq_of_toNat_eq
  rw [shifts, BitVec.toNat_shiftLeft, BitVec.toNat_ushiftRight, Nat.shiftLeft_eq, Nat.shiftRight_eq_div_pow, BitVec.toNat_ofNat]

end Operands

section Steps

variable {s : State}

/-! ### The step by what the fetch gives (R130) -/

theorem step_of_fetch (none : pendingLevel nativeSetup s = 0) : step s = closeStep nativeSetup (runInstruction nativeSetup s) :=
  congrArg (closeStep nativeSetup) (if_pos none)

theorem runInstruction_of_word {π : Type} {M : Setup π} {s t : State π} {w : BitVec 32} (fetched : fetchWord M s = .ok w t) :
    runInstruction M s = runWord M w t := by
  simp only [runInstruction, fetched]

theorem runInstruction_of_raised {π : Type} {M : Setup π} {s t : State π} {k : FaultKind} {va : Word} {m : Mode}
    (raised : fetchWord M s = .raised k va m t) : runInstruction M s = finish M (.raised k va m t) := by
  simp only [runInstruction, raised]

theorem runInstruction_of_stopped {π : Type} {M : Setup π} {s : State π} {f : Fault} (stopped : fetchWord M s = .stopped f) :
    runInstruction M s = .fault f := by
  simp only [runInstruction, stopped]

theorem runWord_of_ok {π : Type} {M : Setup π} {s : State π} {w : BitVec 32} {i : Instr} (decoded : decode w = .ok i) :
    runWord M w s = execUnder M i s := by
  simp only [runWord, decoded]

/-- A word that is no instruction raises reserved-instruction (R155). -/
theorem runWord_of_error {π : Type} {M : Setup π} {s : State π} {w : BitVec 32} {e : DecodeError}
    (undecoded : decode w = .error e) : runWord M w s = finish M (raise .reservedInstruction 0 s) := by
  simp only [runWord, undecoded]

/-- The next vector supplied, or the lines as they are (R430). -/
theorem sampleIrq_eq {π : Type} (t : State π) :
    t.sampleIrq = { t with irq := t.irqNext.headD t.irq, irqNext := t.irqNext.tail } := by
  unfold State.sampleIrq
  split
  next vector rest supplied =>
    rw [supplied]
    rfl
  next holds =>
    rw [holds]
    show t = { t with irqNext := [] }
    conv_rhs => rw [← holds]

/-- The end of a step under NATIVE, field by field (R130 phase 7). -/
theorem endStep_native (t : State) : t.endStep nativeSetup =
    { t with
      ps := { t.ps with haltReq := false }
      report := if t.ps.haltReq then .haltRequested else .running
      irq := t.irqNext.headD t.irq
      irqNext := t.irqNext.tail } := by
  rw [State.endStep, sampleIrq_eq]
  rfl

/-- An instruction that writes the interrupt flag to a register and then sets the flag (R337, R338). -/
theorem endsWith_flag {i : Instr} {ra : Reg} (clear : s.trapSumm = 0) (flag : Bool)
    (meaning : exec i s = complete nativeSetup { s.writeInt ra (boolWord s.intrFlag) with intrFlag := flag }.advance) :
    EndsWith i s fun t => WritesInt { s with intrFlag := flag } t ra (boolWord s.intrFlag) := by
  have swap : ({ s.writeInt ra (boolWord s.intrFlag) with intrFlag := flag } : State) =
      State.writeInt { s with intrFlag := flag } ra (boolWord s.intrFlag) := by
    unfold State.writeInt
    split <;> rfl
  rw [swap] at meaning
  exact ⟨_, meaning.trans (complete_eq (by simpa using clear)), writesInt_advance _ ra _⟩

end Steps

/-- Every entry of the history queue is zero at reset (R480). -/
theorem pcqEntry_reset {π : Type} (M : Setup π) (ram : List Host.Cell) (k : Nat) : (M.reset ram).pcqEntry k = 0 := by
  show (List.replicate M.pcqSize (0 : Word)).getD _ 0 = 0
  rw [List.getD_eq_getElem?_getD, List.getElem?_replicate]
  split <;> rfl

/-! ### The statements -/

/-- Settles O52. -/
theorem memoryReadsBack : Obligations.MemoryReadsBack := fun _ _ _ canonical =>
  ⟨fun _ _ _ _ _ written => memWrite_ok_wf canonical written, fun origin bytes => wf_writeBytes canonical origin bytes,
    fun _ v _ low aligned inside => memRead_byte_of_memWrite_quad canonical v low aligned inside⟩

/-- Settles O4. -/
theorem decodedWords : Obligations.DecodedWords :=
  ⟨rfl, rfl, rfl, rfl, rfl, rfl, rfl, rfl, rfl, rfl, rfl, rfl, rfl, rfl, rfl, rfl, rfl, rfl, rfl⟩

/-- Settles O14. -/
theorem operandsAndAddresses : Obligations.OperandsAndAddresses := fun s =>
  ⟨fun _ => rfl, readInt_31 s, readFp_31 s, fun v => (BitVec.ofNat_toNat 64 v).symm, effAddr_eq_ofInt s,
    fun rb disp => add_signExtend_eq_ofInt (s.readInt rb) disp, fun disp => by
      rw [branchTarget_eq_ofInt, BitVec.ofInt_add, BitVec.ofInt_add, BitVec.ofInt_toInt]
      rfl, quadBase_eq⟩

/-- Settles O5, by each way the fetch ends. -/
theorem stepRunsDecodedInstruction : Obligations.StepRunsDecodedInstruction := by
  intro s none
  rw [step_of_fetch none]
  refine ⟨fun w s' i fetched decoded => ⟨fun t ended => ?_, fun f ended => ?_⟩, fun w s' e fetched undecoded => ?_,
    fun k va m s' raised => ?_, fun f stopped => ?_, endStep_native⟩
  · rw [runInstruction_of_word fetched, runWord_of_ok decoded, ← exec_eq_execUnder, ended]
    rfl
  · rw [runInstruction_of_word fetched, runWord_of_ok decoded, ← exec_eq_execUnder, ended]
    rfl
  · rw [runInstruction_of_word fetched, runWord_of_error undecoded, finish_raise rfl]
    rfl
  · rw [runInstruction_of_raised raised, finish_raised rfl]
    rfl
  · rw [runInstruction_of_stopped stopped]
    rfl

/-- Settles O8, row by row. -/
theorem faultEntryTable : Obligations.FaultEntryTable := by
  intro va m resume s k
  refine ⟨(k, k.code, k.vector), ?_, rfl, rfl⟩
  cases k with
  | reservedInstruction | reservedOperand | misalignedOperand | floatingDisabled => simp [FaultKind.code, FaultKind.vector]
  | tlbMiss acc | faultOnReference acc | accessViolation acc | translationNotValid acc | badVirtualAddress acc =>
    cases acc <;> decide

/-- Settles O37. -/
theorem counterAndInterruptFlag : Obligations.CounterAndInterruptFlag := by
  refine ⟨mfcFormat_of_table fun _ _ => rfl, mfcFormat_of_table fun _ _ => rfl, mfcFormat_of_table fun _ _ => rfl,
    fun ra s clear => ⟨⟨_, complete_eq ?_, writesInt_advance { s with draws := s.draws + 1 } ra _⟩, ?_, ?_⟩⟩
  · simpa using clear
  · rw [← boolWord_eq]
    exact endsWith_flag clear true rfl
  · rw [← boolWord_eq]
    exact endsWith_flag clear false rfl

/-- Settles O54. -/
theorem resetValues : Obligations.ResetValues := by
  refine ⟨fun π M ram => ⟨rfl, rfl, rfl, rfl, rfl, rfl, rfl, rfl, rfl, rfl, rfl, rfl, rfl, rfl, rfl, rfl, rfl, fun k => ?_,
    fun side => ?_, rfl, rfl, rfl, rfl⟩, rfl, rfl, rfl, rfl, rfl, rfl, rfl, rfl, rfl⟩
  · exact pcqEntry_reset M ram k
  · cases side with
    | instruction => exact ⟨rfl, rfl, rfl, rfl⟩
    | data => exact ⟨rfl, rfl, rfl, rfl⟩

end Sys2Proof.Machine
